-- ==== Sys2Proof/Word.lean ====
section
/-! DEFINITION. The two word types of the machine: bytes and 16-bit addresses (R5 `XLEN_DATA`, `XLEN_PC`). -/

namespace Sys2Proof

/-- A memory byte, an 8-bit register, an ALU result (R5, R10). -/
abbrev Byte := BitVec 8

/-- A 16-bit address, and the type of `PC` and `CYC` (R5, R12, R14). -/
abbrev Addr := BitVec 16

end Sys2Proof
end

