-- ==== Sys2Proof/Machine/Bits.lean ====
section
/-! DEFINITION. Bit slices, concatenation and extension, as the notation of R6 defines them. -/

namespace Sys2Proof

/-- `w[15:8]` (R6). -/
def hiByte (w : Addr) : Byte := w.extractLsb' 8 8

/-- `w[7:0]` (R6). -/
def loByte (w : Addr) : Byte := w.extractLsb' 0 8

/-- The concatenation of two bytes, high byte first: `hi * 256 + lo` (R6). -/
def wordOf (hi lo : Byte) : Addr := hi ++ lo

/-- `zext_16(b)` (R6). -/
def zext16 (b : Byte) : Addr := b.setWidth 16

/-- `sext_16(b)` (R6): `b` if `b[7] = 0`, else `0xFF00 + b`. -/
def sext16 (b : Byte) : Addr := b.signExtend 16

/-- The mode group `opcode[4:2]` (R61). -/
def modeGroup (op : Byte) : BitVec 3 := op.extractLsb' 2 3

/-- The disambiguating bit `opcode[0]` (R61). -/
def modeBit0 (op : Byte) : Bool := op.getLsbD 0

/-- Byte `k` of a number whose bit 0 is the least significant bit of the first byte. -/
def byteOf (w k : Nat) : Byte := BitVec.ofNat 8 (w / 256 ^ k)

end Sys2Proof
end

