-- ==== Sys2Proof/Syntax.lean ====
section
/-! DEFINITION. The instructions: one constructor of `Instr` per row of spec/opcode_table.json (R66), the 56
mnemonics, the fourteen operand modes (R63, R64), and the mnemonic and mode of each constructor. Operand bytes are
already assembled: a one-byte operand is a `Byte`, a two-byte operand the address `hi, lo` spell, high byte first (R65). -/

namespace Sys2Proof

/-- The 56 mnemonics (R1, R66). -/
inductive Mnemonic where
  | adc | sbc | cmp | cpx | cpy | and | ora | eor
  | lda | ldx | ldy | inc | dec | sta | stx | sty
  | inx | iny | dex | dey | asl | lsr | rol | ror
  | bit | tax | tay | txa | tya | tsx | txs | clc
  | cld | cli | clv | sec | sed | sei | nop | bcc
  | bcs | beq | bmi | bne | bpl | bvc | bvs | jmp
  | jsr | rts | pha | php | pla | plp | brk | rti
  deriving DecidableEq, Repr

/-- The document's two classes of mnemonic (R62). -/
inductive Group where
  | operandConsuming | implied
  deriving DecidableEq, Repr

/-- The mode ids of R63 and R64. -/
inductive ModeId where
  | imm | zpxd | zp | acc | abs | indy | zpxi | absy | absx
  | rel | ind | imp | regx | regy
  deriving DecidableEq, Repr

/-- An operand mode with its operand bytes (R63, R64, R65). -/
inductive Mode where
  | imm (v : Byte) | zpxd (b : Byte) | zp (b : Byte) | acc | abs (w : Addr) | indy (b : Byte) | zpxi (b : Byte)
  | absy (w : Addr) | absx (w : Addr)
  | rel (d : Byte) | ind (p : Addr) | imp | regx | regy
  deriving DecidableEq, Repr

/-- The id of a mode. -/
def Mode.id : Mode → ModeId
  | .imm _ => .imm | .zpxd _ => .zpxd | .zp _ => .zp | .acc => .acc | .abs _ => .abs | .indy _ => .indy
  | .zpxi _ => .zpxi | .absy _ => .absy | .absx _ => .absx | .rel _ => .rel | .ind _ => .ind | .imp => .imp
  | .regx => .regx | .regy => .regy

/-- The group of a mnemonic (R62): 21 mnemonics consume a resolved operand, the others are implied. -/
def Mnemonic.group : Mnemonic → Group
  | .adc | .and | .asl | .bit | .cmp | .cpx | .cpy | .dec | .eor | .inc | .lda
  | .ldx | .ldy | .lsr | .ora | .rol | .ror | .sbc | .sta | .stx | .sty => .operandConsuming
  | .inx | .iny | .dex | .dey | .tax | .tay | .txa | .tya | .tsx | .txs | .clc | .cld
  | .cli | .clv | .sec | .sed | .sei | .nop | .bcc | .bcs | .beq | .bmi | .bne | .bpl
  | .bvc | .bvs | .jmp | .jsr | .rts | .pha | .php | .pla | .plp | .brk | .rti => .implied

/-- The instructions, one constructor per row of the opcode table, in the order of the by-mnemonic table of R66. -/
inductive Instr where
  -- ADC (R110)
  | adcZpxd (b : Byte)
  | adcZp (b : Byte)
  | adcImm (v : Byte)
  | adcAbs (w : Addr)
  | adcIndy (b : Byte)
  | adcZpxi (b : Byte)
  | adcAbsy (w : Addr)
  | adcAbsx (w : Addr)
  -- SBC (R111)
  | sbcZpxd (b : Byte)
  | sbcZp (b : Byte)
  | sbcImm (v : Byte)
  | sbcAbs (w : Addr)
  | sbcIndy (b : Byte)
  | sbcZpxi (b : Byte)
  | sbcAbsy (w : Addr)
  | sbcAbsx (w : Addr)
  -- CMP (R113)
  | cmpZpxd (b : Byte)
  | cmpZp (b : Byte)
  | cmpImm (v : Byte)
  | cmpAbs (w : Addr)
  | cmpIndy (b : Byte)
  | cmpZpxi (b : Byte)
  | cmpAbsy (w : Addr)
  | cmpAbsx (w : Addr)
  -- CPX (R114)
  | cpxImm (v : Byte)
  | cpxZp (b : Byte)
  | cpxAbs (w : Addr)
  -- CPY (R115)
  | cpyImm (v : Byte)
  | cpyZp (b : Byte)
  | cpyAbs (w : Addr)
  -- AND (R120)
  | andZpxd (b : Byte)
  | andZp (b : Byte)
  | andImm (v : Byte)
  | andAbs (w : Addr)
  | andIndy (b : Byte)
  | andZpxi (b : Byte)
  | andAbsy (w : Addr)
  | andAbsx (w : Addr)
  -- ORA (R121)
  | oraZpxd (b : Byte)
  | oraZp (b : Byte)
  | oraImm (v : Byte)
  | oraAbs (w : Addr)
  | oraIndy (b : Byte)
  | oraZpxi (b : Byte)
  | oraAbsy (w : Addr)
  | oraAbsx (w : Addr)
  -- EOR (R122)
  | eorZpxd (b : Byte)
  | eorZp (b : Byte)
  | eorImm (v : Byte)
  | eorAbs (w : Addr)
  | eorIndy (b : Byte)
  | eorZpxi (b : Byte)
  | eorAbsy (w : Addr)
  | eorAbsx (w : Addr)
  -- LDA (R123)
  | ldaZpxd (b : Byte)
  | ldaZp (b : Byte)
  | ldaImm (v : Byte)
  | ldaAbs (w : Addr)
  | ldaIndy (b : Byte)
  | ldaZpxi (b : Byte)
  | ldaAbsy (w : Addr)
  | ldaAbsx (w : Addr)
  -- LDX (R124)
  | ldxImm (v : Byte)
  | ldxZp (b : Byte)
  | ldxAbs (w : Addr)
  | ldxZpxi (b : Byte)
  | ldxAbsx (w : Addr)
  -- LDY (R125)
  | ldyImm (v : Byte)
  | ldyZp (b : Byte)
  | ldyAbs (w : Addr)
  | ldyZpxi (b : Byte)
  | ldyAbsx (w : Addr)
  -- INC (R126)
  | incZp (b : Byte)
  | incAbs (w : Addr)
  | incZpxi (b : Byte)
  | incAbsx (w : Addr)
  -- DEC (R127)
  | decZp (b : Byte)
  | decAbs (w : Addr)
  | decZpxi (b : Byte)
  | decAbsx (w : Addr)
  -- STA (R128)
  | staZpxd (b : Byte)
  | staZp (b : Byte)
  | staAbs (w : Addr)
  | staIndy (b : Byte)
  | staZpxi (b : Byte)
  | staAbsy (w : Addr)
  | staAbsx (w : Addr)
  -- STX (R129)
  | stxZp (b : Byte)
  | stxAbs (w : Addr)
  | stxZpxi (b : Byte)
  -- STY (R130)
  | styZp (b : Byte)
  | styAbs (w : Addr)
  | styZpxi (b : Byte)
  -- INX (R131)
  | inx
  -- INY (R132)
  | iny
  -- DEX (R133)
  | dex
  -- DEY (R134)
  | dey
  -- ASL (R140)
  | aslZp (b : Byte)
  | aslAcc
  | aslAbs (w : Addr)
  | aslZpxi (b : Byte)
  | aslAbsx (w : Addr)
  -- LSR (R141)
  | lsrZp (b : Byte)
  | lsrAcc
  | lsrAbs (w : Addr)
  | lsrZpxi (b : Byte)
  | lsrAbsx (w : Addr)
  -- ROL (R142)
  | rolZp (b : Byte)
  | rolAcc
  | rolAbs (w : Addr)
  | rolZpxi (b : Byte)
  | rolAbsx (w : Addr)
  -- ROR (R143)
  | rorZp (b : Byte)
  | rorAcc
  | rorAbs (w : Addr)
  | rorZpxi (b : Byte)
  | rorAbsx (w : Addr)
  -- BIT (R144)
  | bitZp (b : Byte)
  | bitAbs (w : Addr)
  -- TAX (R150)
  | tax
  -- TAY (R151)
  | tay
  -- TXA (R152)
  | txa
  -- TYA (R153)
  | tya
  -- TSX (R154)
  | tsx
  -- TXS (R155)
  | txs
  -- CLC (R156)
  | clc
  -- CLD (R157)
  | cld
  -- CLI (R158)
  | cli
  -- CLV (R159)
  | clv
  -- SEC (R160)
  | sec
  -- SED (R161)
  | sed
  -- SEI (R162)
  | sei
  -- NOP (R163)
  | nop
  -- BCC (R171)
  | bcc (d : Byte)
  -- BCS (R172)
  | bcs (d : Byte)
  -- BEQ (R173)
  | beq (d : Byte)
  -- BMI (R174)
  | bmi (d : Byte)
  -- BNE (R175)
  | bne (d : Byte)
  -- BPL (R176)
  | bpl (d : Byte)
  -- BVC (R177)
  | bvc (d : Byte)
  -- BVS (R178)
  | bvs (d : Byte)
  -- JMP (R179)
  | jmpAbs (w : Addr)
  | jmpInd (p : Addr)
  -- JSR (R180)
  | jsr (w : Addr)
  -- RTS (R181)
  | rts
  -- PHA (R194)
  | pha
  -- PHP (R195)
  | php
  -- PLA (R196)
  | pla
  -- PLP (R197)
  | plp
  -- BRK (R198)
  | brk
  -- RTI (R199)
  | rti
  deriving DecidableEq, Repr

/-- The mnemonic of an instruction (R66). -/
def Instr.mnemonic : Instr → Mnemonic
  | .adcZpxd _ | .adcZp _ | .adcImm _ | .adcAbs _ | .adcIndy _ | .adcZpxi _ | .adcAbsy _ | .adcAbsx _ => .adc
  | .sbcZpxd _ | .sbcZp _ | .sbcImm _ | .sbcAbs _ | .sbcIndy _ | .sbcZpxi _ | .sbcAbsy _ | .sbcAbsx _ => .sbc
  | .cmpZpxd _ | .cmpZp _ | .cmpImm _ | .cmpAbs _ | .cmpIndy _ | .cmpZpxi _ | .cmpAbsy _ | .cmpAbsx _ => .cmp
  | .cpxImm _ | .cpxZp _ | .cpxAbs _ => .cpx
  | .cpyImm _ | .cpyZp _ | .cpyAbs _ => .cpy
  | .andZpxd _ | .andZp _ | .andImm _ | .andAbs _ | .andIndy _ | .andZpxi _ | .andAbsy _ | .andAbsx _ => .and
  | .oraZpxd _ | .oraZp _ | .oraImm _ | .oraAbs _ | .oraIndy _ | .oraZpxi _ | .oraAbsy _ | .oraAbsx _ => .ora
  | .eorZpxd _ | .eorZp _ | .eorImm _ | .eorAbs _ | .eorIndy _ | .eorZpxi _ | .eorAbsy _ | .eorAbsx _ => .eor
  | .ldaZpxd _ | .ldaZp _ | .ldaImm _ | .ldaAbs _ | .ldaIndy _ | .ldaZpxi _ | .ldaAbsy _ | .ldaAbsx _ => .lda
  | .ldxImm _ | .ldxZp _ | .ldxAbs _ | .ldxZpxi _ | .ldxAbsx _ => .ldx
  | .ldyImm _ | .ldyZp _ | .ldyAbs _ | .ldyZpxi _ | .ldyAbsx _ => .ldy
  | .incZp _ | .incAbs _ | .incZpxi _ | .incAbsx _ => .inc
  | .decZp _ | .decAbs _ | .decZpxi _ | .decAbsx _ => .dec
  | .staZpxd _ | .staZp _ | .staAbs _ | .staIndy _ | .staZpxi _ | .staAbsy _ | .staAbsx _ => .sta
  | .stxZp _ | .stxAbs _ | .stxZpxi _ => .stx
  | .styZp _ | .styAbs _ | .styZpxi _ => .sty
  | .inx => .inx
  | .iny => .iny
  | .dex => .dex
  | .dey => .dey
  | .aslZp _ | .aslAcc | .aslAbs _ | .aslZpxi _ | .aslAbsx _ => .asl
  | .lsrZp _ | .lsrAcc | .lsrAbs _ | .lsrZpxi _ | .lsrAbsx _ => .lsr
  | .rolZp _ | .rolAcc | .rolAbs _ | .rolZpxi _ | .rolAbsx _ => .rol
  | .rorZp _ | .rorAcc | .rorAbs _ | .rorZpxi _ | .rorAbsx _ => .ror
  | .bitZp _ | .bitAbs _ => .bit
  | .tax => .tax
  | .tay => .tay
  | .txa => .txa
  | .tya => .tya
  | .tsx => .tsx
  | .txs => .txs
  | .clc => .clc
  | .cld => .cld
  | .cli => .cli
  | .clv => .clv
  | .sec => .sec
  | .sed => .sed
  | .sei => .sei
  | .nop => .nop
  | .bcc _ => .bcc
  | .bcs _ => .bcs
  | .beq _ => .beq
  | .bmi _ => .bmi
  | .bne _ => .bne
  | .bpl _ => .bpl
  | .bvc _ => .bvc
  | .bvs _ => .bvs
  | .jmpAbs _ | .jmpInd _ => .jmp
  | .jsr _ => .jsr
  | .rts => .rts
  | .pha => .pha
  | .php => .php
  | .pla => .pla
  | .plp => .plp
  | .brk => .brk
  | .rti => .rti

/-- The operand mode of an instruction, with its operand bytes (R63, R64, R66). -/
def Instr.mode : Instr → Mode
  | .adcZpxd b => .zpxd b
  | .adcZp b => .zp b
  | .adcImm v => .imm v
  | .adcAbs w => .abs w
  | .adcIndy b => .indy b
  | .adcZpxi b => .zpxi b
  | .adcAbsy w => .absy w
  | .adcAbsx w => .absx w
  | .sbcZpxd b => .zpxd b
  | .sbcZp b => .zp b
  | .sbcImm v => .imm v
  | .sbcAbs w => .abs w
  | .sbcIndy b => .indy b
  | .sbcZpxi b => .zpxi b
  | .sbcAbsy w => .absy w
  | .sbcAbsx w => .absx w
  | .cmpZpxd b => .zpxd b
  | .cmpZp b => .zp b
  | .cmpImm v => .imm v
  | .cmpAbs w => .abs w
  | .cmpIndy b => .indy b
  | .cmpZpxi b => .zpxi b
  | .cmpAbsy w => .absy w
  | .cmpAbsx w => .absx w
  | .cpxImm v => .imm v
  | .cpxZp b => .zp b
  | .cpxAbs w => .abs w
  | .cpyImm v => .imm v
  | .cpyZp b => .zp b
  | .cpyAbs w => .abs w
  | .andZpxd b => .zpxd b
  | .andZp b => .zp b
  | .andImm v => .imm v
  | .andAbs w => .abs w
  | .andIndy b => .indy b
  | .andZpxi b => .zpxi b
  | .andAbsy w => .absy w
  | .andAbsx w => .absx w
  | .oraZpxd b => .zpxd b
  | .oraZp b => .zp b
  | .oraImm v => .imm v
  | .oraAbs w => .abs w
  | .oraIndy b => .indy b
  | .oraZpxi b => .zpxi b
  | .oraAbsy w => .absy w
  | .oraAbsx w => .absx w
  | .eorZpxd b => .zpxd b
  | .eorZp b => .zp b
  | .eorImm v => .imm v
  | .eorAbs w => .abs w
  | .eorIndy b => .indy b
  | .eorZpxi b => .zpxi b
  | .eorAbsy w => .absy w
  | .eorAbsx w => .absx w
  | .ldaZpxd b => .zpxd b
  | .ldaZp b => .zp b
  | .ldaImm v => .imm v
  | .ldaAbs w => .abs w
  | .ldaIndy b => .indy b
  | .ldaZpxi b => .zpxi b
  | .ldaAbsy w => .absy w
  | .ldaAbsx w => .absx w
  | .ldxImm v => .imm v
  | .ldxZp b => .zp b
  | .ldxAbs w => .abs w
  | .ldxZpxi b => .zpxi b
  | .ldxAbsx w => .absx w
  | .ldyImm v => .imm v
  | .ldyZp b => .zp b
  | .ldyAbs w => .abs w
  | .ldyZpxi b => .zpxi b
  | .ldyAbsx w => .absx w
  | .incZp b => .zp b
  | .incAbs w => .abs w
  | .incZpxi b => .zpxi b
  | .incAbsx w => .absx w
  | .decZp b => .zp b
  | .decAbs w => .abs w
  | .decZpxi b => .zpxi b
  | .decAbsx w => .absx w
  | .staZpxd b => .zpxd b
  | .staZp b => .zp b
  | .staAbs w => .abs w
  | .staIndy b => .indy b
  | .staZpxi b => .zpxi b
  | .staAbsy w => .absy w
  | .staAbsx w => .absx w
  | .stxZp b => .zp b
  | .stxAbs w => .abs w
  | .stxZpxi b => .zpxi b
  | .styZp b => .zp b
  | .styAbs w => .abs w
  | .styZpxi b => .zpxi b
  | .inx => .regx
  | .iny => .regy
  | .dex => .regx
  | .dey => .regy
  | .aslZp b => .zp b
  | .aslAcc => .acc
  | .aslAbs w => .abs w
  | .aslZpxi b => .zpxi b
  | .aslAbsx w => .absx w
  | .lsrZp b => .zp b
  | .lsrAcc => .acc
  | .lsrAbs w => .abs w
  | .lsrZpxi b => .zpxi b
  | .lsrAbsx w => .absx w
  | .rolZp b => .zp b
  | .rolAcc => .acc
  | .rolAbs w => .abs w
  | .rolZpxi b => .zpxi b
  | .rolAbsx w => .absx w
  | .rorZp b => .zp b
  | .rorAcc => .acc
  | .rorAbs w => .abs w
  | .rorZpxi b => .zpxi b
  | .rorAbsx w => .absx w
  | .bitZp b => .zp b
  | .bitAbs w => .abs w
  | .tax => .imp
  | .tay => .imp
  | .txa => .imp
  | .tya => .imp
  | .tsx => .imp
  | .txs => .imp
  | .clc => .imp
  | .cld => .imp
  | .cli => .imp
  | .clv => .imp
  | .sec => .imp
  | .sed => .imp
  | .sei => .imp
  | .nop => .imp
  | .bcc d => .rel d
  | .bcs d => .rel d
  | .beq d => .rel d
  | .bmi d => .rel d
  | .bne d => .rel d
  | .bpl d => .rel d
  | .bvc d => .rel d
  | .bvs d => .rel d
  | .jmpAbs w => .abs w
  | .jmpInd p => .ind p
  | .jsr w => .abs w
  | .rts => .imp
  | .pha => .imp
  | .php => .imp
  | .pla => .imp
  | .plp => .imp
  | .brk => .imp
  | .rti => .imp

end Sys2Proof
end

