-- ==== Sys2Proof/WellFormed.lean ====
section
/-! DEFINITION. Well-formedness. Every operand value is legal in every operand position (R68), so the only thing a
pair of a mnemonic and a mode can get wrong is the pairing: a `Form` is well formed when its mode belongs to the
mnemonic's group (R63, R64) and the by-mnemonic table of R66 lists it. Every constructor of `Instr` has a well-formed
form (Laws/PerInstr.lean); a pair such as `STA` with `IMM` (0x89, R99) does not. -/

namespace Sys2Proof

/-- A mnemonic with an operand mode: what `Decode` returns beside the group (R82). -/
structure Form where
  mnemonic : Mnemonic
  mode : Mode
  deriving DecidableEq, Repr

/-- The modes a group can have: the ten paths of R63 for the operand-consuming group, the forms of R64 for the
implied group. -/
def Group.modes : Group → List ModeId
  | .operandConsuming => [.imm, .zpxd, .zp, .acc, .abs, .indy, .zpxi, .absy, .absx]
  | .implied => [.rel, .abs, .ind, .regx, .regy, .imp]

/-- The modes each mnemonic has, in the order of the by-mnemonic table of R66. -/
def Mnemonic.modes : Mnemonic → List ModeId
  | .adc => [.zpxd, .zp, .imm, .abs, .indy, .zpxi, .absy, .absx]
  | .sbc => [.zpxd, .zp, .imm, .abs, .indy, .zpxi, .absy, .absx]
  | .cmp => [.zpxd, .zp, .imm, .abs, .indy, .zpxi, .absy, .absx]
  | .cpx => [.imm, .zp, .abs]
  | .cpy => [.imm, .zp, .abs]
  | .and => [.zpxd, .zp, .imm, .abs, .indy, .zpxi, .absy, .absx]
  | .ora => [.zpxd, .zp, .imm, .abs, .indy, .zpxi, .absy, .absx]
  | .eor => [.zpxd, .zp, .imm, .abs, .indy, .zpxi, .absy, .absx]
  | .lda => [.zpxd, .zp, .imm, .abs, .indy, .zpxi, .absy, .absx]
  | .ldx => [.imm, .zp, .abs, .zpxi, .absx]
  | .ldy => [.imm, .zp, .abs, .zpxi, .absx]
  | .inc => [.zp, .abs, .zpxi, .absx]
  | .dec => [.zp, .abs, .zpxi, .absx]
  | .sta => [.zpxd, .zp, .abs, .indy, .zpxi, .absy, .absx]
  | .stx => [.zp, .abs, .zpxi]
  | .sty => [.zp, .abs, .zpxi]
  | .inx => [.regx]
  | .iny => [.regy]
  | .dex => [.regx]
  | .dey => [.regy]
  | .asl => [.zp, .acc, .abs, .zpxi, .absx]
  | .lsr => [.zp, .acc, .abs, .zpxi, .absx]
  | .rol => [.zp, .acc, .abs, .zpxi, .absx]
  | .ror => [.zp, .acc, .abs, .zpxi, .absx]
  | .bit => [.zp, .abs]
  | .tax => [.imp]
  | .tay => [.imp]
  | .txa => [.imp]
  | .tya => [.imp]
  | .tsx => [.imp]
  | .txs => [.imp]
  | .clc => [.imp]
  | .cld => [.imp]
  | .cli => [.imp]
  | .clv => [.imp]
  | .sec => [.imp]
  | .sed => [.imp]
  | .sei => [.imp]
  | .nop => [.imp]
  | .bcc => [.rel]
  | .bcs => [.rel]
  | .beq => [.rel]
  | .bmi => [.rel]
  | .bne => [.rel]
  | .bpl => [.rel]
  | .bvc => [.rel]
  | .bvs => [.rel]
  | .jmp => [.abs, .ind]
  | .jsr => [.abs]
  | .rts => [.imp]
  | .pha => [.imp]
  | .php => [.imp]
  | .pla => [.imp]
  | .plp => [.imp]
  | .brk => [.imp]
  | .rti => [.imp]

/-- The mode belongs to the mnemonic's group (R62, R63, R64). -/
def Form.modeOfGroup (f : Form) : Bool := f.mnemonic.group.modes.contains f.mode.id

/-- The map of R66 has an opcode for the pair. -/
def Form.listed (f : Form) : Bool := f.mnemonic.modes.contains f.mode.id

/-- The well-formed pairs. -/
def Form.wellFormed (f : Form) : Bool := f.modeOfGroup && f.listed

/-- The form of an instruction. -/
def Instr.form (i : Instr) : Form := ⟨i.mnemonic, i.mode⟩

/-- The well-formed instructions. -/
def Instr.wellFormed (i : Instr) : Bool := i.form.wellFormed

end Sys2Proof
end

