-- ==== Sys2Proof/Decode.lean ====
section
/-! DEFINITION. The decoder, total on any bytes and rejecting by name, and after it the encoder. The decoder's table is
the grid of R66, row by row; the encoder's opcodes are the by-mnemonic table of R66: the two are written from two
places of the spec. -/

namespace Sys2Proof

/-- What an opcode byte spells, still lacking its operand bytes: formats F1, F2 and F3 of R60. -/
inductive Shape where
  | f1 (i : Instr)
  | f2 (i : Byte → Instr)
  | f3 (i : Addr → Instr)

/-- How many operand bytes follow the opcode byte (R60, R69). -/
def Shape.operandBytes : Shape → Nat
  | .f1 _ => 0
  | .f2 _ => 1
  | .f3 _ => 2

/-- Why a byte sequence is not an instruction. -/
inductive DecodeError where
  /-- The first byte is one of the 105 of R67. -/
  | undefinedOpcode (opcode : Byte)
  /-- There is no opcode byte, or an operand byte is missing. -/
  | truncated
  deriving DecidableEq, Repr

/-- Row 0x of the map of R66. -/
def opcodeRow0 : List (Byte × Shape) :=
  [(0x00, .f1 .brk), (0x01, .f2 .oraZpxd), (0x05, .f2 .oraZp), (0x06, .f2 .aslZp),
   (0x08, .f1 .php), (0x09, .f2 .oraImm), (0x0A, .f1 .aslAcc), (0x0D, .f3 .oraAbs),
   (0x0E, .f3 .aslAbs)]

/-- Row 1x of the map of R66. -/
def opcodeRow1 : List (Byte × Shape) :=
  [(0x10, .f2 .bpl), (0x11, .f2 .oraIndy), (0x15, .f2 .oraZpxi), (0x16, .f2 .aslZpxi),
   (0x18, .f1 .clc), (0x19, .f3 .oraAbsy), (0x1D, .f3 .oraAbsx), (0x1E, .f3 .aslAbsx)]

/-- Row 2x of the map of R66. -/
def opcodeRow2 : List (Byte × Shape) :=
  [(0x20, .f3 .jsr), (0x21, .f2 .andZpxd), (0x24, .f2 .bitZp), (0x25, .f2 .andZp),
   (0x26, .f2 .rolZp), (0x28, .f1 .plp), (0x29, .f2 .andImm), (0x2A, .f1 .rolAcc),
   (0x2C, .f3 .bitAbs), (0x2D, .f3 .andAbs), (0x2E, .f3 .rolAbs)]

/-- Row 3x of the map of R66. -/
def opcodeRow3 : List (Byte × Shape) :=
  [(0x30, .f2 .bmi), (0x31, .f2 .andIndy), (0x35, .f2 .andZpxi), (0x36, .f2 .rolZpxi),
   (0x38, .f1 .sec), (0x39, .f3 .andAbsy), (0x3D, .f3 .andAbsx), (0x3E, .f3 .rolAbsx)]

/-- Row 4x of the map of R66. -/
def opcodeRow4 : List (Byte × Shape) :=
  [(0x40, .f1 .rti), (0x41, .f2 .eorZpxd), (0x45, .f2 .eorZp), (0x46, .f2 .lsrZp),
   (0x48, .f1 .pha), (0x49, .f2 .eorImm), (0x4A, .f1 .lsrAcc), (0x4C, .f3 .jmpAbs),
   (0x4D, .f3 .eorAbs), (0x4E, .f3 .lsrAbs)]

/-- Row 5x of the map of R66. -/
def opcodeRow5 : List (Byte × Shape) :=
  [(0x50, .f2 .bvc), (0x51, .f2 .eorIndy), (0x55, .f2 .eorZpxi), (0x56, .f2 .lsrZpxi),
   (0x58, .f1 .cli), (0x59, .f3 .eorAbsy), (0x5D, .f3 .eorAbsx), (0x5E, .f3 .lsrAbsx)]

/-- Row 6x of the map of R66. -/
def opcodeRow6 : List (Byte × Shape) :=
  [(0x60, .f1 .rts), (0x61, .f2 .adcZpxd), (0x65, .f2 .adcZp), (0x66, .f2 .rorZp),
   (0x68, .f1 .pla), (0x69, .f2 .adcImm), (0x6A, .f1 .rorAcc), (0x6C, .f3 .jmpInd),
   (0x6D, .f3 .adcAbs), (0x6E, .f3 .rorAbs)]

/-- Row 7x of the map of R66. -/
def opcodeRow7 : List (Byte × Shape) :=
  [(0x70, .f2 .bvs), (0x71, .f2 .adcIndy), (0x75, .f2 .adcZpxi), (0x76, .f2 .rorZpxi),
   (0x78, .f1 .sei), (0x79, .f3 .adcAbsy), (0x7D, .f3 .adcAbsx), (0x7E, .f3 .rorAbsx)]

/-- Row 8x of the map of R66. -/
def opcodeRow8 : List (Byte × Shape) :=
  [(0x81, .f2 .staZpxd), (0x84, .f2 .styZp), (0x85, .f2 .staZp), (0x86, .f2 .stxZp),
   (0x88, .f1 .dey), (0x8A, .f1 .txa), (0x8C, .f3 .styAbs), (0x8D, .f3 .staAbs),
   (0x8E, .f3 .stxAbs)]

/-- Row 9x of the map of R66. -/
def opcodeRow9 : List (Byte × Shape) :=
  [(0x90, .f2 .bcc), (0x91, .f2 .staIndy), (0x94, .f2 .styZpxi), (0x95, .f2 .staZpxi),
   (0x96, .f2 .stxZpxi), (0x98, .f1 .tya), (0x99, .f3 .staAbsy), (0x9A, .f1 .txs),
   (0x9D, .f3 .staAbsx)]

/-- Row Ax of the map of R66. -/
def opcodeRowA : List (Byte × Shape) :=
  [(0xA0, .f2 .ldyImm), (0xA1, .f2 .ldaZpxd), (0xA2, .f2 .ldxImm), (0xA4, .f2 .ldyZp),
   (0xA5, .f2 .ldaZp), (0xA6, .f2 .ldxZp), (0xA8, .f1 .tay), (0xA9, .f2 .ldaImm),
   (0xAA, .f1 .tax), (0xAC, .f3 .ldyAbs), (0xAD, .f3 .ldaAbs), (0xAE, .f3 .ldxAbs)]

/-- Row Bx of the map of R66. -/
def opcodeRowB : List (Byte × Shape) :=
  [(0xB0, .f2 .bcs), (0xB1, .f2 .ldaIndy), (0xB4, .f2 .ldyZpxi), (0xB5, .f2 .ldaZpxi),
   (0xB6, .f2 .ldxZpxi), (0xB8, .f1 .clv), (0xB9, .f3 .ldaAbsy), (0xBA, .f1 .tsx),
   (0xBC, .f3 .ldyAbsx), (0xBD, .f3 .ldaAbsx), (0xBE, .f3 .ldxAbsx)]

/-- Row Cx of the map of R66. -/
def opcodeRowC : List (Byte × Shape) :=
  [(0xC0, .f2 .cpyImm), (0xC1, .f2 .cmpZpxd), (0xC4, .f2 .cpyZp), (0xC5, .f2 .cmpZp),
   (0xC6, .f2 .decZp), (0xC8, .f1 .iny), (0xC9, .f2 .cmpImm), (0xCA, .f1 .dex),
   (0xCC, .f3 .cpyAbs), (0xCD, .f3 .cmpAbs), (0xCE, .f3 .decAbs)]

/-- Row Dx of the map of R66. -/
def opcodeRowD : List (Byte × Shape) :=
  [(0xD0, .f2 .bne), (0xD1, .f2 .cmpIndy), (0xD5, .f2 .cmpZpxi), (0xD6, .f2 .decZpxi),
   (0xD8, .f1 .cld), (0xD9, .f3 .cmpAbsy), (0xDD, .f3 .cmpAbsx), (0xDE, .f3 .decAbsx)]

/-- Row Ex of the map of R66. -/
def opcodeRowE : List (Byte × Shape) :=
  [(0xE0, .f2 .cpxImm), (0xE1, .f2 .sbcZpxd), (0xE4, .f2 .cpxZp), (0xE5, .f2 .sbcZp),
   (0xE6, .f2 .incZp), (0xE8, .f1 .inx), (0xE9, .f2 .sbcImm), (0xEA, .f1 .nop),
   (0xEC, .f3 .cpxAbs), (0xED, .f3 .sbcAbs), (0xEE, .f3 .incAbs)]

/-- Row Fx of the map of R66. -/
def opcodeRowF : List (Byte × Shape) :=
  [(0xF0, .f2 .beq), (0xF1, .f2 .sbcIndy), (0xF5, .f2 .sbcZpxi), (0xF6, .f2 .incZpxi),
   (0xF8, .f1 .sed), (0xF9, .f3 .sbcAbsy), (0xFD, .f3 .sbcAbsx), (0xFE, .f3 .incAbsx)]

/-- The map of R66, 151 opcode bytes, by the high nibble of the opcode byte. -/
def opcodeMap (row : Nat) : List (Byte × Shape) :=
  match row with
  | 0 => opcodeRow0
  | 1 => opcodeRow1
  | 2 => opcodeRow2
  | 3 => opcodeRow3
  | 4 => opcodeRow4
  | 5 => opcodeRow5
  | 6 => opcodeRow6
  | 7 => opcodeRow7
  | 8 => opcodeRow8
  | 9 => opcodeRow9
  | 10 => opcodeRowA
  | 11 => opcodeRowB
  | 12 => opcodeRowC
  | 13 => opcodeRowD
  | 14 => opcodeRowE
  | _ => opcodeRowF

/-- The first entry of a row under a byte; the whole byte is compared (R66). -/
def lookupShape (op : Byte) : List (Byte × Shape) → Option Shape
  | [] => none
  | (b, sh) :: rest => if b = op then some sh else lookupShape op rest

/-- What an opcode byte spells, `none` for the undefined opcodes of R67 (R82). -/
def shapeOf (op : Byte) : Option Shape := lookupShape op (opcodeMap (op.toNat / 16))

/-- The bytes that an instruction with this opcode byte occupies: known from the opcode byte alone (R69). An undefined
opcode has no length; only its opcode byte is read (R211), so 1. -/
def lengthOf (op : Byte) : Nat :=
  match shapeOf op with
  | some sh => 1 + sh.operandBytes
  | none => 1

/-- Decode the first instruction of a byte sequence and return what follows it (R44, R60, R65, R82). -/
def decode : List Byte → Except DecodeError (Instr × List Byte)
  | [] => .error .truncated
  | op :: rest =>
    match shapeOf op, rest with
    | none, _ => .error (.undefinedOpcode op)
    | some (.f1 i), rest => .ok (i, rest)
    | some (.f2 i), b :: rest => .ok (i b, rest)
    | some (.f3 i), hi :: lo :: rest => .ok (i (wordOf hi lo), rest)
    | some _, _ => .error .truncated

/-- The instruction the decoder reads, if any. -/
def decodeInstr (bytes : List Byte) : Option Instr :=
  match decode bytes with
  | .ok (i, _) => some i
  | .error _ => none

/-- The first three bytes (the longest instruction, R60) of an instruction whose bits are `w`, bit 0 the least
significant bit of its first byte; the bits above `nbits` are 0. -/
def tableBytes (nbits w : Nat) : List Byte :=
  let v := w % 2 ^ nbits
  [byteOf v 0, byteOf v 1, byteOf v 2]

/-- The instruction the decoder reads from an instruction whose bits are `w`, numbered as spec/opcode_table.json
numbers them. -/
def decodeTableWord (nbits w : Nat) : Option Instr := decodeInstr (tableBytes nbits w)

/-- The operand bytes of a mode at ascending addresses, the high byte of a two-byte operand first (R44, R60, R65). -/
def Mode.bytes : Mode → List Byte
  | .imm v => [v]
  | .zpxd b => [b]
  | .zp b => [b]
  | .acc => []
  | .abs w => [hiByte w, loByte w]
  | .indy b => [b]
  | .zpxi b => [b]
  | .absy w => [hiByte w, loByte w]
  | .absx w => [hiByte w, loByte w]
  | .rel d => [d]
  | .ind p => [hiByte p, loByte p]
  | .imp => []
  | .regx => []
  | .regy => []

/-- The number of operand bytes of a mode (R63, R64). -/
def Mode.operandBytes (m : Mode) : Nat := m.bytes.length

/-- The opcode byte of an instruction: the by-mnemonic table of R66. -/
def Instr.opcode : Instr → Byte
  | .adcZpxd _ => 0x61
  | .adcZp _ => 0x65
  | .adcImm _ => 0x69
  | .adcAbs _ => 0x6D
  | .adcIndy _ => 0x71
  | .adcZpxi _ => 0x75
  | .adcAbsy _ => 0x79
  | .adcAbsx _ => 0x7D
  | .sbcZpxd _ => 0xE1
  | .sbcZp _ => 0xE5
  | .sbcImm _ => 0xE9
  | .sbcAbs _ => 0xED
  | .sbcIndy _ => 0xF1
  | .sbcZpxi _ => 0xF5
  | .sbcAbsy _ => 0xF9
  | .sbcAbsx _ => 0xFD
  | .cmpZpxd _ => 0xC1
  | .cmpZp _ => 0xC5
  | .cmpImm _ => 0xC9
  | .cmpAbs _ => 0xCD
  | .cmpIndy _ => 0xD1
  | .cmpZpxi _ => 0xD5
  | .cmpAbsy _ => 0xD9
  | .cmpAbsx _ => 0xDD
  | .cpxImm _ => 0xE0
  | .cpxZp _ => 0xE4
  | .cpxAbs _ => 0xEC
  | .cpyImm _ => 0xC0
  | .cpyZp _ => 0xC4
  | .cpyAbs _ => 0xCC
  | .andZpxd _ => 0x21
  | .andZp _ => 0x25
  | .andImm _ => 0x29
  | .andAbs _ => 0x2D
  | .andIndy _ => 0x31
  | .andZpxi _ => 0x35
  | .andAbsy _ => 0x39
  | .andAbsx _ => 0x3D
  | .oraZpxd _ => 0x01
  | .oraZp _ => 0x05
  | .oraImm _ => 0x09
  | .oraAbs _ => 0x0D
  | .oraIndy _ => 0x11
  | .oraZpxi _ => 0x15
  | .oraAbsy _ => 0x19
  | .oraAbsx _ => 0x1D
  | .eorZpxd _ => 0x41
  | .eorZp _ => 0x45
  | .eorImm _ => 0x49
  | .eorAbs _ => 0x4D
  | .eorIndy _ => 0x51
  | .eorZpxi _ => 0x55
  | .eorAbsy _ => 0x59
  | .eorAbsx _ => 0x5D
  | .ldaZpxd _ => 0xA1
  | .ldaZp _ => 0xA5
  | .ldaImm _ => 0xA9
  | .ldaAbs _ => 0xAD
  | .ldaIndy _ => 0xB1
  | .ldaZpxi _ => 0xB5
  | .ldaAbsy _ => 0xB9
  | .ldaAbsx _ => 0xBD
  | .ldxImm _ => 0xA2
  | .ldxZp _ => 0xA6
  | .ldxAbs _ => 0xAE
  | .ldxZpxi _ => 0xB6
  | .ldxAbsx _ => 0xBE
  | .ldyImm _ => 0xA0
  | .ldyZp _ => 0xA4
  | .ldyAbs _ => 0xAC
  | .ldyZpxi _ => 0xB4
  | .ldyAbsx _ => 0xBC
  | .incZp _ => 0xE6
  | .incAbs _ => 0xEE
  | .incZpxi _ => 0xF6
  | .incAbsx _ => 0xFE
  | .decZp _ => 0xC6
  | .decAbs _ => 0xCE
  | .decZpxi _ => 0xD6
  | .decAbsx _ => 0xDE
  | .staZpxd _ => 0x81
  | .staZp _ => 0x85
  | .staAbs _ => 0x8D
  | .staIndy _ => 0x91
  | .staZpxi _ => 0x95
  | .staAbsy _ => 0x99
  | .staAbsx _ => 0x9D
  | .stxZp _ => 0x86
  | .stxAbs _ => 0x8E
  | .stxZpxi _ => 0x96
  | .styZp _ => 0x84
  | .styAbs _ => 0x8C
  | .styZpxi _ => 0x94
  | .inx => 0xE8
  | .iny => 0xC8
  | .dex => 0xCA
  | .dey => 0x88
  | .aslZp _ => 0x06
  | .aslAcc => 0x0A
  | .aslAbs _ => 0x0E
  | .aslZpxi _ => 0x16
  | .aslAbsx _ => 0x1E
  | .lsrZp _ => 0x46
  | .lsrAcc => 0x4A
  | .lsrAbs _ => 0x4E
  | .lsrZpxi _ => 0x56
  | .lsrAbsx _ => 0x5E
  | .rolZp _ => 0x26
  | .rolAcc => 0x2A
  | .rolAbs _ => 0x2E
  | .rolZpxi _ => 0x36
  | .rolAbsx _ => 0x3E
  | .rorZp _ => 0x66
  | .rorAcc => 0x6A
  | .rorAbs _ => 0x6E
  | .rorZpxi _ => 0x76
  | .rorAbsx _ => 0x7E
  | .bitZp _ => 0x24
  | .bitAbs _ => 0x2C
  | .tax => 0xAA
  | .tay => 0xA8
  | .txa => 0x8A
  | .tya => 0x98
  | .tsx => 0xBA
  | .txs => 0x9A
  | .clc => 0x18
  | .cld => 0xD8
  | .cli => 0x58
  | .clv => 0xB8
  | .sec => 0x38
  | .sed => 0xF8
  | .sei => 0x78
  | .nop => 0xEA
  | .bcc _ => 0x90
  | .bcs _ => 0xB0
  | .beq _ => 0xF0
  | .bmi _ => 0x30
  | .bne _ => 0xD0
  | .bpl _ => 0x10
  | .bvc _ => 0x50
  | .bvs _ => 0x70
  | .jmpAbs _ => 0x4C
  | .jmpInd _ => 0x6C
  | .jsr _ => 0x20
  | .rts => 0x60
  | .pha => 0x48
  | .php => 0x08
  | .pla => 0x68
  | .plp => 0x28
  | .brk => 0x00
  | .rti => 0x40

/-- The length of an instruction in bytes (R60, R69). -/
def Instr.length (i : Instr) : Nat := 1 + i.mode.operandBytes

/-- The bytes of an instruction at ascending addresses (R44, R60). -/
def encode (i : Instr) : List Byte := i.opcode :: i.mode.bytes

end Sys2Proof
end

