-- ==== Sys2Proof/Config.lean ====
section
/-! DEFINITION. The parameters of the machine that rule R5 fixes. No parameter is a free value: the spec leaves no
result undefined (section 1 of 93_implementation_defined.md), and the two OPEN parameters of R5 (the environment
between steps, the launch image and `PC`) are the driver's events of Machine/Driver.lean. -/

namespace Sys2Proof.Config

/-- What a byte of memory that nothing has written reads as: the array is "zero-initialized at construction" (R40, R24). -/
abbrev unlistedByte : Byte := 0x00

/-- `STACK_BASE` (R5, R190): page one. -/
abbrev stackBase : Addr := 0x0100

/-- `BRK_VECTOR` (R5, R198): the address of the high byte; the low byte is at 0xFFFF. -/
abbrev brkVector : Addr := 0xFFFE

/-- `MEM_SIZE` (R5, R40). -/
abbrev memSize : Nat := 65536

end Sys2Proof.Config
end

