-- ==== Sys2Proof/Machine/State.lean ====
section
/-! DEFINITION. The state of the machine: everything rule R24 lists, as plain data; the reasons a step can stop; the
canonical form of memory; the state after reset. -/

namespace Sys2Proof.Machine

/-- The memory array (R40): the bytes that differ from what an unlisted address reads as, by rising address. -/
abbrev Memory := List Host.Cell

/-- The canonical form from address `lo` on: addresses strictly rising and inside the array, no byte equal to the
unlisted one. -/
def Memory.wfFrom (lo : Nat) : Memory → Bool
  | [] => true
  | (a, v) :: rest =>
    decide (lo ≤ a) && decide (a < Config.memSize) && (v != Config.unlistedByte) && Memory.wfFrom (a + 1) rest

/-- Memory is in its one canonical form, so that equal memories are equal data. -/
def Memory.wf (m : Memory) : Bool := Memory.wfFrom 0 m

/-- The whole state of the core and its memory array (R10 to R16, R21, R24, R40). `P` is a view (R17), not a field. -/
structure State where
  /-- `A`, the accumulator (R10). -/
  a : Byte
  /-- `X` (R10). -/
  x : Byte
  /-- `Y` (R10). -/
  y : Byte
  /-- `SP`, the offset of the next free location in page one (R11). -/
  sp : Byte
  /-- `PC` (R12). -/
  pc : Addr
  /-- `CYC`, completed steps (R14). -/
  cyc : Addr
  /-- `C` (R15). -/
  flagC : Bool
  /-- `Z` (R15). -/
  flagZ : Bool
  /-- `I` (R15). -/
  flagI : Bool
  /-- `D` (R15). -/
  flagD : Bool
  /-- `B` (R15). -/
  flagB : Bool
  /-- `U`, always 1 (R15, R16). -/
  flagU : Bool
  /-- `V` (R15). -/
  flagV : Bool
  /-- `N` (R15). -/
  flagN : Bool
  /-- `HALT`, the fault latch (R21). -/
  halt : Bool
  /-- `fault_opcode` (R21). -/
  faultOpcode : Byte
  /-- `fault_addr` (R21). -/
  faultAddr : Addr
  /-- The memory array (R40). -/
  mem : Memory
  deriving DecidableEq, Repr

/-- Faults that stop the machine without a next state. There is none: the spec's one fault, `UndefinedOpcode`, is a
change of state that R211 gives in full (it sets `HALT`), so the step takes that next state, and no access, arithmetic
or stack event can fault (R210). Safe: nothing is cut off. -/
inductive Fault where
  deriving DecidableEq, Repr

/-- Why the model gives no meaning. -/
inductive Refusal where
  /-- Raised by `exec` for an instruction that has no meaning yet. Safe: nothing can be proved of it. -/
  | notModelled (mnemonic : String)
  /-- Raised by `readOperand` for an operand that `OperandRead` is not defined for (R97). No instruction reaches it
  (R99, U4 `refuse`). Safe. -/
  | operandNotReadable
  /-- Raised by `writeOperand` for an operand that `OperandWrite` is not defined for (R98). No instruction reaches it
  (R99, R223, U4 `refuse`). Safe. -/
  | operandNotWritable
  /-- Raised by a branch or a jump whose operand is not the `Relative` or `Target` that R94, R89 and R95 resolve for
  it. No instruction reaches it. Safe. -/
  | operandNotTarget
  deriving DecidableEq, Repr

/-- The outcome of an instruction or a step. -/
abbrev Result := Host.Outcome State Fault Refusal

/-- The state after reset: the table of R24. -/
def State.reset : State where
  a := 0x00
  x := 0x00
  y := 0x00
  sp := 0x00
  pc := 0x0000
  cyc := 0x0000
  flagC := false
  flagZ := false
  flagI := false
  flagD := false
  flagB := false
  flagU := true
  flagV := false
  flagN := false
  halt := false
  faultOpcode := 0x00
  faultAddr := 0x0000
  mem := []

end Sys2Proof.Machine
end

