-- ==== Sys2Proof/Machine/Flags.lean ====
section
/-! DEFINITION. The ALU: the status byte, `SetNZ`, and every result and flag computation of files 41 to 43, as pure
functions of operands and old flags. -/

namespace Sys2Proof.Machine

/-- The weight of a flag in the status byte: `w` if the flag is 1 (R17). -/
def flagBit (f : Bool) (w : Byte) : Byte := if f then w else 0x00

/-- `get_status`: the status byte `P = N V U B D I Z C` (R17). -/
def getStatus (s : State) : Byte :=
  flagBit s.flagN 0x80 ||| flagBit s.flagV 0x40 ||| flagBit s.flagU 0x20 ||| flagBit s.flagB 0x10 |||
  flagBit s.flagD 0x08 ||| flagBit s.flagI 0x04 ||| flagBit s.flagZ 0x02 ||| flagBit s.flagC 0x01

/-- `set_status(b)`: seven flags from `b`; bit 5 is ignored and `U` is not written (R18, R20). -/
def setStatus (b : Byte) (s : State) : State :=
  { s with
    flagC := b.getLsbD 0
    flagZ := b.getLsbD 1
    flagI := b.getLsbD 2
    flagD := b.getLsbD 3
    flagB := b.getLsbD 4
    flagV := b.getLsbD 6
    flagN := b.getLsbD 7 }

/-- `SetNZ(v)` (R19). -/
def setNZ (v : Byte) (s : State) : State :=
  { s with flagN := v.getLsbD 7, flagZ := decide (v = 0x00) }

/-! ### Add with carry (R110) -/

/-- `sum9 = A + M + C`, the exact sum (R110). -/
def addSum (a m : Byte) (c : Bool) : Nat := a.toNat + m.toNat + c.toNat

/-- `r = sum9 mod 256` (R110). -/
def addResult (a m : Byte) (c : Bool) : Byte := BitVec.ofNat 8 (addSum a m c)

/-- The new `C` of `ADC`: `sum9 > 255` (R110). -/
def addCarry (a m : Byte) (c : Bool) : Bool := decide (addSum a m c > 255)

/-- The new `V` of `ADC`: operands of one sign, result of the other (R110). -/
def addOverflow (a m : Byte) (c : Bool) : Bool :=
  (a.getLsbD 7 == m.getLsbD 7) && ((addResult a m c).getLsbD 7 != a.getLsbD 7)

/-! ### Subtract with borrow (R111) -/

/-- `borrow = 1 - C` (R111). -/
def borrow (c : Bool) : Nat := 1 - c.toNat

/-- `r = (A - M - borrow) mod 256`: the exact difference, then narrowed (R111). -/
def subResult (a m : Byte) (c : Bool) : Byte :=
  BitVec.ofInt 8 ((a.toNat : Int) - (m.toNat : Int) - (borrow c : Int))

/-- The new `C` of `SBC`: `A >= M + borrow`, as unbounded integers (R111). -/
def subCarry (a m : Byte) (c : Bool) : Bool := decide (m.toNat + borrow c ≤ a.toNat)

/-- The new `V` of `SBC`: operands of different sign, result of the other sign than `A` (R111). -/
def subOverflow (a m : Byte) (c : Bool) : Bool :=
  (a.getLsbD 7 != m.getLsbD 7) && ((subResult a m c).getLsbD 7 != a.getLsbD 7)

/-! ### Compare (R112) -/

/-- `r = (reg - M) mod 256` (R112). -/
def compareResult (reg m : Byte) : Byte := reg - m

/-- The new `C` of a compare: `reg >= M` before any truncation (R112). -/
def compareCarry (reg m : Byte) : Bool := decide (m.toNat ≤ reg.toNat)

/-- `Compare(reg, M)` (R112). -/
def compareFlags (reg m : Byte) (s : State) : State :=
  setNZ (compareResult reg m) { s with flagC := compareCarry reg m }

/-! ### Shifts and rotates (R140 to R143) -/

/-- `(M * 2) mod 256` (R140). -/
def aslResult (m : Byte) : Byte := m <<< 1

/-- `M >> 1` (R141). -/
def lsrResult (m : Byte) : Byte := m >>> 1

/-- `((M * 2) mod 256) | C` (R142). -/
def rolResult (m : Byte) (c : Bool) : Byte := (m <<< 1) ||| flagBit c 0x01

/-- `(M >> 1) | (C * 128)` (R143). -/
def rorResult (m : Byte) (c : Bool) : Byte := (m >>> 1) ||| flagBit c 0x80

/-- The bit a left shift moves out (R140, R142). -/
def shiftOutLeft (m : Byte) : Bool := m.getLsbD 7

/-- The bit a right shift moves out (R141, R143). -/
def shiftOutRight (m : Byte) : Bool := m.getLsbD 0

end Sys2Proof.Machine
end

