-- ==== Sys2Proof/Machine/Ops.lean ====
section
/-! DEFINITION. The named operations over memory and registers: the memory port, the program counter and the step
counter, the stack engine, and the two events that divert the machine: `BRK` entry with its return, and
`UndefinedOpcode`. -/

namespace Sys2Proof.Machine

/-! ### The memory array (R40, R41) -/

/-- The byte stored at a location. -/
def Memory.read (m : Memory) (a : Nat) : Byte :=
  match m with
  | [] => Config.unlistedByte
  | (b, v) :: rest => if b = a then v else Memory.read rest a

/-- The array without any entry for a location. -/
def Memory.remove (m : Memory) (a : Nat) : Memory :=
  match m with
  | [] => []
  | (b, v) :: rest => if b = a then Memory.remove rest a else (b, v) :: Memory.remove rest a

/-- The array with an entry put before the first larger address. -/
def Memory.insertCell (m : Memory) (a : Nat) (v : Byte) : Memory :=
  match m with
  | [] => [(a, v)]
  | (b, w) :: rest => if a < b then (a, v) :: (b, w) :: rest else (b, w) :: Memory.insertCell rest a v

/-- Replace the byte at a location and change no other byte (R41), keeping the canonical form. -/
def Memory.write (m : Memory) (a : Nat) (v : Byte) : Memory :=
  if v = Config.unlistedByte then m.remove a else (m.remove a).insertCell a v

/-! ### The memory port (R41, R42, R45) -/

/-- `MemRead(addr, 1)` (R41). -/
def memRead (a : Addr) (s : State) : Byte := s.mem.read a.toNat

/-- `MemWrite(addr, 1, v)` (R41). -/
def memWrite (a : Addr) (v : Byte) (s : State) : State := { s with mem := s.mem.write a.toNat v }

/-- `Read16(a)`: the high byte at `a`, the low byte at `(a + 1) mod 65536` (R42). -/
def read16 (a : Addr) (s : State) : Addr := wordOf (memRead a s) (memRead (a + 1) s)

/-! ### `PC` and `CYC` (R13, R14, R81, R84) -/

/-- A write to `PC`; the type reduces it `mod 65536` (R13). -/
def setPc (t : Addr) (s : State) : State := { s with pc := t }

/-- `PC` moved past `n` bytes (R81, R84). -/
def advancePc (n : Nat) (s : State) : State := { s with pc := s.pc + BitVec.ofNat 16 n }

/-- The last action of a completed step: `CYC <- (CYC + 1) mod 65536` (R14, R80). -/
def tick (s : State) : State := { s with cyc := s.cyc + 1 }

/-! ### The stack engine (R190 to R193, R200) -/

/-- The stack location that a value of `SP` designates: `0x0100 + SP` (R11, R190). -/
def stackAddr (sp : Byte) : Addr := Config.stackBase + zext16 sp

/-- `Push(v)`: write at `0x0100 + SP`, then increment `SP` inside page one (R191, R200). -/
def push (v : Byte) (s : State) : State :=
  let t := memWrite (stackAddr s.sp) v s
  { t with sp := s.sp + 1 }

/-- The state after `Pull()`: `SP` decremented (R192). -/
def pulled (s : State) : State := { s with sp := s.sp - 1 }

/-- The byte `Pull()` returns: read at the decremented `SP` (R192). -/
def pullByte (s : State) : Byte := memRead (stackAddr (s.sp - 1)) s

/-- `Push16(w)`: high byte, then low byte (R193). -/
def push16 (w : Addr) (s : State) : State := push (loByte w) (push (hiByte w) s)

/-- The state after `Pull16()` (R193). -/
def pulled16 (s : State) : State := pulled (pulled s)

/-- The value `Pull16()` returns: the low byte comes off first (R193). -/
def pullWord (s : State) : Addr := wordOf (pullByte (pulled s)) (pullByte s)

/-! ### The software trap and its return (R198, R199, R215, R216) -/

/-- Taking the trap with return address `ret`: push `ret`, set `B`, push the status, set `I`, load `PC` from the
break vector, in this order (R198, R215). -/
def takeBreak (ret : Addr) (s : State) : State :=
  let s1 := push16 ret s
  let s2 := { s1 with flagB := true }
  let s3 := push (getStatus s2) s2
  let s4 := { s3 with flagI := true }
  setPc (read16 Config.brkVector s4) s4

/-- The return: pull the status and restore seven flags from it, then pull `PC`, with no adjustment (R199, R216). -/
def returnFromBreak (s : State) : State :=
  let s1 := setStatus (pullByte s) (pulled s)
  setPc (pullWord s1) (pulled16 s1)

/-! ### The one fault (R211) -/

/-- `raise UndefinedOpcode(opcode, opaddr)`: latch the fault and record it; nothing else changes (R21, R211). -/
def raiseUndefinedOpcode (opcode : Byte) (opaddr : Addr) (s : State) : State :=
  { s with halt := true, faultOpcode := opcode, faultAddr := opaddr }

end Sys2Proof.Machine
end

