-- ==== Sys2Proof/Machine/Operands.lean ====
section
/-! DEFINITION. The address resolver (R83 to R96, R100), reading and writing an operand (R97, R98), and the frame of
every instruction: past the opcode, resolve, run the handler, tick (R80, R81). -/

namespace Sys2Proof.Machine

/-- The Operand a resolver hands to a handler (R83). -/
inductive Operand where
  | immediate (v : Byte)
  | memory (a : Addr)
  | accumulator
  | registerX
  | registerY
  | none
  /-- The sign-extended displacement of a branch (R94). -/
  | relative (d : Addr)
  /-- The target of `JMP` and `JSR` (R89, R95). -/
  | target (t : Addr)
  deriving DecidableEq, Repr

/-- `(b + X) mod 256` as a zero-page address (R86, R91). -/
def zeroPageX (b : Byte) (s : State) : Addr := zext16 (b + s.x)

/-- The address of an `INDY` operand: the two-byte base at the zero-page pointer plus `Y`, of which only bits 7 to 0
survive (R90). -/
def indirectY (b : Byte) (s : State) : Addr := zext16 (loByte (read16 (zext16 b) s + zext16 s.y))

/-- The address of a `ZPXI` operand: the two bytes at the indexed zero-page pointer (R91). -/
def indirectX (b : Byte) (s : State) : Addr := read16 (zeroPageX b s) s

/-- `Resolve(mode)` (R84). The group tells the two uses of `ABS` apart: an operand in memory, or the target of `JMP`
and `JSR` (R89). The operand bytes are already in the mode; moving `PC` past them is `execute`'s. -/
def resolve (g : Group) (m : Mode) (s : State) : Operand :=
  match m with
  | .imm v => .immediate v
  | .zpxd b => .memory (zeroPageX b s)
  | .zp b => .memory (zext16 b)
  | .acc => .accumulator
  | .abs w => match g with
    | .operandConsuming => .memory w
    | .implied => .target w
  | .indy b => .memory (indirectY b s)
  | .zpxi b => .memory (indirectX b s)
  | .absy w => .memory (w + zext16 s.y)
  | .absx w => .memory (w + zext16 s.x)
  | .rel d => .relative (sext16 d)
  | .ind p => .target (read16 p s)
  | .imp => .none
  | .regx => .registerX
  | .regy => .registerY

/-- `OperandRead(op)`; `none` for the operands it is not defined for (R97). -/
def operandRead (op : Operand) (s : State) : Option Byte :=
  match op with
  | .immediate v => some v
  | .memory a => some (memRead a s)
  | .accumulator => some s.a
  | .registerX => some s.x
  | .registerY => some s.y
  | .none => Option.none
  | .relative _ => Option.none
  | .target _ => Option.none

/-- `OperandWrite(op, v)`; `none` for the operands it is not defined for (R98). -/
def operandWrite (op : Operand) (v : Byte) (s : State) : Option State :=
  match op with
  | .immediate _ => Option.none
  | .memory a => some (memWrite a v s)
  | .accumulator => some { s with a := v }
  | .registerX => some { s with x := v }
  | .registerY => some { s with y := v }
  | .none => Option.none
  | .relative _ => Option.none
  | .target _ => Option.none

/-- Run a handler on the operand byte `M` (R97). -/
def readOperand (op : Operand) (s : State) (k : Byte → Result) : Result :=
  match operandRead op s with
  | some m => k m
  | Option.none => .refused .operandNotReadable

/-- End a handler by storing its result in the operand (R98). -/
def writeOperand (op : Operand) (v : Byte) (s : State) : Result :=
  match operandWrite op v s with
  | some t => .next t
  | Option.none => .refused .operandNotWritable

/-- Run a handler on a branch displacement (R94). -/
def withDisplacement (op : Operand) (k : Addr → Result) : Result :=
  match op with
  | .relative d => k d
  | _ => .refused .operandNotTarget

/-- Run a handler on a jump target (R89, R95). -/
def withTarget (op : Operand) (k : Addr → Result) : Result :=
  match op with
  | .target t => k t
  | _ => .refused .operandNotTarget

/-- The step's last action after a handler that completes (R80). -/
def completeStep (r : Result) : Result :=
  match r with
  | .next s => .next (tick s)
  | .fault f => .fault f
  | .refused f => .refused f

/-- One instruction from the state between steps: `PC` past the opcode byte (R81), the operand resolved and `PC` past
the operand bytes (R84), the handler (files 41 to 46), `CYC` ticked (R80). -/
def execute (g : Group) (m : Mode) (handler : Operand → State → Result) (s : State) : Result :=
  let fetched := advancePc 1 s
  completeStep (handler (resolve g m fetched) (advancePc m.operandBytes fetched))

end Sys2Proof.Machine
end

