-- ==== Sys2Proof/Machine/Arithmetic.lean ====
section
/-! DEFINITION. 41_arithmetic_compare.md: `ADC`, `SBC`, `CMP`, `CPX`, `CPY`. First each mnemonic's handler, then the meaning of each
row of the opcode table. -/

namespace Sys2Proof.Machine

/-- `ADC` (R110): `V` and `C` from the old `A` and the old `C`. `D` is not read (R116). -/
def adcHandler (op : Operand) (s : State) : Result :=
  readOperand op s fun m =>
    .next (setNZ (addResult s.a m s.flagC)
      { s with
        a := addResult s.a m s.flagC
        flagC := addCarry s.a m s.flagC
        flagV := addOverflow s.a m s.flagC })

/-- `SBC` (R111): `V` and `C` from the old `A` and the old `C`. `D` is not read (R116). -/
def sbcHandler (op : Operand) (s : State) : Result :=
  readOperand op s fun m =>
    .next (setNZ (subResult s.a m s.flagC)
      { s with
        a := subResult s.a m s.flagC
        flagC := subCarry s.a m s.flagC
        flagV := subOverflow s.a m s.flagC })

/-- `CMP` (R113). -/
def cmpHandler (op : Operand) (s : State) : Result :=
  readOperand op s fun m => .next (compareFlags s.a m s)

/-- `CPX` (R114). -/
def cpxHandler (op : Operand) (s : State) : Result :=
  readOperand op s fun m => .next (compareFlags s.x m s)

/-- `CPY` (R115). -/
def cpyHandler (op : Operand) (s : State) : Result :=
  readOperand op s fun m => .next (compareFlags s.y m s)

/-- Opcode 61: `ADC` (R110), mode `ZPXD` (R86). -/
def execAdcZpxd (b : Byte) (s : State) : Result := execute .operandConsuming (.zpxd b) adcHandler s

/-- Opcode 65: `ADC` (R110), mode `ZP` (R87). -/
def execAdcZp (b : Byte) (s : State) : Result := execute .operandConsuming (.zp b) adcHandler s

/-- Opcode 69: `ADC` (R110), mode `IMM` (R85). -/
def execAdcImm (v : Byte) (s : State) : Result := execute .operandConsuming (.imm v) adcHandler s

/-- Opcode 6D: `ADC` (R110), mode `ABS` (R89). -/
def execAdcAbs (w : Addr) (s : State) : Result := execute .operandConsuming (.abs w) adcHandler s

/-- Opcode 71: `ADC` (R110), mode `INDY` (R90). -/
def execAdcIndy (b : Byte) (s : State) : Result := execute .operandConsuming (.indy b) adcHandler s

/-- Opcode 75: `ADC` (R110), mode `ZPXI` (R91). -/
def execAdcZpxi (b : Byte) (s : State) : Result := execute .operandConsuming (.zpxi b) adcHandler s

/-- Opcode 79: `ADC` (R110), mode `ABSY` (R92). -/
def execAdcAbsy (w : Addr) (s : State) : Result := execute .operandConsuming (.absy w) adcHandler s

/-- Opcode 7D: `ADC` (R110), mode `ABSX` (R93). -/
def execAdcAbsx (w : Addr) (s : State) : Result := execute .operandConsuming (.absx w) adcHandler s

/-- Opcode E1: `SBC` (R111), mode `ZPXD` (R86). -/
def execSbcZpxd (b : Byte) (s : State) : Result := execute .operandConsuming (.zpxd b) sbcHandler s

/-- Opcode E5: `SBC` (R111), mode `ZP` (R87). -/
def execSbcZp (b : Byte) (s : State) : Result := execute .operandConsuming (.zp b) sbcHandler s

/-- Opcode E9: `SBC` (R111), mode `IMM` (R85). -/
def execSbcImm (v : Byte) (s : State) : Result := execute .operandConsuming (.imm v) sbcHandler s

/-- Opcode ED: `SBC` (R111), mode `ABS` (R89). -/
def execSbcAbs (w : Addr) (s : State) : Result := execute .operandConsuming (.abs w) sbcHandler s

/-- Opcode F1: `SBC` (R111), mode `INDY` (R90). -/
def execSbcIndy (b : Byte) (s : State) : Result := execute .operandConsuming (.indy b) sbcHandler s

/-- Opcode F5: `SBC` (R111), mode `ZPXI` (R91). -/
def execSbcZpxi (b : Byte) (s : State) : Result := execute .operandConsuming (.zpxi b) sbcHandler s

/-- Opcode F9: `SBC` (R111), mode `ABSY` (R92). -/
def execSbcAbsy (w : Addr) (s : State) : Result := execute .operandConsuming (.absy w) sbcHandler s

/-- Opcode FD: `SBC` (R111), mode `ABSX` (R93). -/
def execSbcAbsx (w : Addr) (s : State) : Result := execute .operandConsuming (.absx w) sbcHandler s

/-- Opcode C1: `CMP` (R113), mode `ZPXD` (R86). -/
def execCmpZpxd (b : Byte) (s : State) : Result := execute .operandConsuming (.zpxd b) cmpHandler s

/-- Opcode C5: `CMP` (R113), mode `ZP` (R87). -/
def execCmpZp (b : Byte) (s : State) : Result := execute .operandConsuming (.zp b) cmpHandler s

/-- Opcode C9: `CMP` (R113), mode `IMM` (R85). -/
def execCmpImm (v : Byte) (s : State) : Result := execute .operandConsuming (.imm v) cmpHandler s

/-- Opcode CD: `CMP` (R113), mode `ABS` (R89). -/
def execCmpAbs (w : Addr) (s : State) : Result := execute .operandConsuming (.abs w) cmpHandler s

/-- Opcode D1: `CMP` (R113), mode `INDY` (R90). -/
def execCmpIndy (b : Byte) (s : State) : Result := execute .operandConsuming (.indy b) cmpHandler s

/-- Opcode D5: `CMP` (R113), mode `ZPXI` (R91). -/
def execCmpZpxi (b : Byte) (s : State) : Result := execute .operandConsuming (.zpxi b) cmpHandler s

/-- Opcode D9: `CMP` (R113), mode `ABSY` (R92). -/
def execCmpAbsy (w : Addr) (s : State) : Result := execute .operandConsuming (.absy w) cmpHandler s

/-- Opcode DD: `CMP` (R113), mode `ABSX` (R93). -/
def execCmpAbsx (w : Addr) (s : State) : Result := execute .operandConsuming (.absx w) cmpHandler s

/-- Opcode E0: `CPX` (R114), mode `IMM` (R85). -/
def execCpxImm (v : Byte) (s : State) : Result := execute .operandConsuming (.imm v) cpxHandler s

/-- Opcode E4: `CPX` (R114), mode `ZP` (R87). -/
def execCpxZp (b : Byte) (s : State) : Result := execute .operandConsuming (.zp b) cpxHandler s

/-- Opcode EC: `CPX` (R114), mode `ABS` (R89). -/
def execCpxAbs (w : Addr) (s : State) : Result := execute .operandConsuming (.abs w) cpxHandler s

/-- Opcode C0: `CPY` (R115), mode `IMM` (R85). -/
def execCpyImm (v : Byte) (s : State) : Result := execute .operandConsuming (.imm v) cpyHandler s

/-- Opcode C4: `CPY` (R115), mode `ZP` (R87). -/
def execCpyZp (b : Byte) (s : State) : Result := execute .operandConsuming (.zp b) cpyHandler s

/-- Opcode CC: `CPY` (R115), mode `ABS` (R89). -/
def execCpyAbs (w : Addr) (s : State) : Result := execute .operandConsuming (.abs w) cpyHandler s

end Sys2Proof.Machine
end

