-- ==== Sys2Proof/Machine/Control.lean ====
section
/-! DEFINITION. 45_control_transfer.md: branches, `JMP`, `JSR`, `RTS`. First each mnemonic's handler, then the meaning of each
row of the opcode table. -/

namespace Sys2Proof.Machine

/-- `Branch(cond, d)` (R170): `PC` is already past the displacement byte. -/
def branch (cond : Bool) (op : Operand) (s : State) : Result :=
  withDisplacement op fun d => .next (if cond then setPc (s.pc + d) s else s)

/-- `BCC` (R171). -/
def bccHandler (op : Operand) (s : State) : Result := branch (!s.flagC) op s

/-- `BCS` (R172). -/
def bcsHandler (op : Operand) (s : State) : Result := branch s.flagC op s

/-- `BEQ` (R173). -/
def beqHandler (op : Operand) (s : State) : Result := branch s.flagZ op s

/-- `BMI` (R174). -/
def bmiHandler (op : Operand) (s : State) : Result := branch s.flagN op s

/-- `BNE` (R175). -/
def bneHandler (op : Operand) (s : State) : Result := branch (!s.flagZ) op s

/-- `BPL` (R176). -/
def bplHandler (op : Operand) (s : State) : Result := branch (!s.flagN) op s

/-- `BVC` (R177). -/
def bvcHandler (op : Operand) (s : State) : Result := branch (!s.flagV) op s

/-- `BVS` (R178). -/
def bvsHandler (op : Operand) (s : State) : Result := branch s.flagV op s

/-- `JMP` (R179). -/
def jmpHandler (op : Operand) (s : State) : Result := withTarget op fun t => .next (setPc t s)

/-- `JSR` (R180): pushes the address of its own last byte. -/
def jsrHandler (op : Operand) (s : State) : Result :=
  withTarget op fun t => .next (setPc t (push16 (s.pc - 1) s))

/-- `RTS` (R181). -/
def rtsHandler (_op : Operand) (s : State) : Result := .next (setPc (pullWord s + 1) (pulled16 s))

/-- Opcode 90: `BCC` (R171), mode `REL` (R94). -/
def execBcc (d : Byte) (s : State) : Result := execute .implied (.rel d) bccHandler s

/-- Opcode B0: `BCS` (R172), mode `REL` (R94). -/
def execBcs (d : Byte) (s : State) : Result := execute .implied (.rel d) bcsHandler s

/-- Opcode F0: `BEQ` (R173), mode `REL` (R94). -/
def execBeq (d : Byte) (s : State) : Result := execute .implied (.rel d) beqHandler s

/-- Opcode 30: `BMI` (R174), mode `REL` (R94). -/
def execBmi (d : Byte) (s : State) : Result := execute .implied (.rel d) bmiHandler s

/-- Opcode D0: `BNE` (R175), mode `REL` (R94). -/
def execBne (d : Byte) (s : State) : Result := execute .implied (.rel d) bneHandler s

/-- Opcode 10: `BPL` (R176), mode `REL` (R94). -/
def execBpl (d : Byte) (s : State) : Result := execute .implied (.rel d) bplHandler s

/-- Opcode 50: `BVC` (R177), mode `REL` (R94). -/
def execBvc (d : Byte) (s : State) : Result := execute .implied (.rel d) bvcHandler s

/-- Opcode 70: `BVS` (R178), mode `REL` (R94). -/
def execBvs (d : Byte) (s : State) : Result := execute .implied (.rel d) bvsHandler s

/-- Opcode 4C: `JMP` (R179), mode `ABS` (R89). -/
def execJmpAbs (w : Addr) (s : State) : Result := execute .implied (.abs w) jmpHandler s

/-- Opcode 6C: `JMP` (R179), mode `IND` (R95). -/
def execJmpInd (p : Addr) (s : State) : Result := execute .implied (.ind p) jmpHandler s

/-- Opcode 20: `JSR` (R180), mode `ABS` (R89). -/
def execJsr (w : Addr) (s : State) : Result := execute .implied (.abs w) jsrHandler s

/-- Opcode 60: `RTS` (R181), mode `IMP` (R96). -/
def execRts (s : State) : Result := execute .implied .imp rtsHandler s

end Sys2Proof.Machine
end

