-- ==== Sys2Proof/Machine/LogicLoadStore.lean ====
section
/-! DEFINITION. 42_logic_load_store_incdec.md: logic, loads, stores, increment and decrement. First each mnemonic's handler, then the meaning of each
row of the opcode table. -/

namespace Sys2Proof.Machine

/-- `AND` (R120). -/
def andHandler (op : Operand) (s : State) : Result :=
  readOperand op s fun m => .next (setNZ (s.a &&& m) { s with a := s.a &&& m })

/-- `ORA` (R121). -/
def oraHandler (op : Operand) (s : State) : Result :=
  readOperand op s fun m => .next (setNZ (s.a ||| m) { s with a := s.a ||| m })

/-- `EOR` (R122). -/
def eorHandler (op : Operand) (s : State) : Result :=
  readOperand op s fun m => .next (setNZ (s.a ^^^ m) { s with a := s.a ^^^ m })

/-- `LDA` (R123). -/
def ldaHandler (op : Operand) (s : State) : Result :=
  readOperand op s fun m => .next (setNZ m { s with a := m })

/-- `LDX` (R124): the operand was resolved with the old `X`. -/
def ldxHandler (op : Operand) (s : State) : Result :=
  readOperand op s fun m => .next (setNZ m { s with x := m })

/-- `LDY` (R125). -/
def ldyHandler (op : Operand) (s : State) : Result :=
  readOperand op s fun m => .next (setNZ m { s with y := m })

/-- `INC` (R126), and `INX`, `INY` on their register operand (R100, R131, R132). -/
def incHandler (op : Operand) (s : State) : Result :=
  readOperand op s fun m => writeOperand op (m + 1) (setNZ (m + 1) s)

/-- `DEC` (R127), and `DEX`, `DEY` on their register operand (R100, R133, R134). -/
def decHandler (op : Operand) (s : State) : Result :=
  readOperand op s fun m => writeOperand op (m - 1) (setNZ (m - 1) s)

/-- `STA` (R128): the target is not read, no flag changes. -/
def staHandler (op : Operand) (s : State) : Result := writeOperand op s.a s

/-- `STX` (R129). -/
def stxHandler (op : Operand) (s : State) : Result := writeOperand op s.x s

/-- `STY` (R130). -/
def styHandler (op : Operand) (s : State) : Result := writeOperand op s.y s

/-- Opcode 21: `AND` (R120), mode `ZPXD` (R86). -/
def execAndZpxd (b : Byte) (s : State) : Result := execute .operandConsuming (.zpxd b) andHandler s

/-- Opcode 25: `AND` (R120), mode `ZP` (R87). -/
def execAndZp (b : Byte) (s : State) : Result := execute .operandConsuming (.zp b) andHandler s

/-- Opcode 29: `AND` (R120), mode `IMM` (R85). -/
def execAndImm (v : Byte) (s : State) : Result := execute .operandConsuming (.imm v) andHandler s

/-- Opcode 2D: `AND` (R120), mode `ABS` (R89). -/
def execAndAbs (w : Addr) (s : State) : Result := execute .operandConsuming (.abs w) andHandler s

/-- Opcode 31: `AND` (R120), mode `INDY` (R90). -/
def execAndIndy (b : Byte) (s : State) : Result := execute .operandConsuming (.indy b) andHandler s

/-- Opcode 35: `AND` (R120), mode `ZPXI` (R91). -/
def execAndZpxi (b : Byte) (s : State) : Result := execute .operandConsuming (.zpxi b) andHandler s

/-- Opcode 39: `AND` (R120), mode `ABSY` (R92). -/
def execAndAbsy (w : Addr) (s : State) : Result := execute .operandConsuming (.absy w) andHandler s

/-- Opcode 3D: `AND` (R120), mode `ABSX` (R93). -/
def execAndAbsx (w : Addr) (s : State) : Result := execute .operandConsuming (.absx w) andHandler s

/-- Opcode 01: `ORA` (R121), mode `ZPXD` (R86). -/
def execOraZpxd (b : Byte) (s : State) : Result := execute .operandConsuming (.zpxd b) oraHandler s

/-- Opcode 05: `ORA` (R121), mode `ZP` (R87). -/
def execOraZp (b : Byte) (s : State) : Result := execute .operandConsuming (.zp b) oraHandler s

/-- Opcode 09: `ORA` (R121), mode `IMM` (R85). -/
def execOraImm (v : Byte) (s : State) : Result := execute .operandConsuming (.imm v) oraHandler s

/-- Opcode 0D: `ORA` (R121), mode `ABS` (R89). -/
def execOraAbs (w : Addr) (s : State) : Result := execute .operandConsuming (.abs w) oraHandler s

/-- Opcode 11: `ORA` (R121), mode `INDY` (R90). -/
def execOraIndy (b : Byte) (s : State) : Result := execute .operandConsuming (.indy b) oraHandler s

/-- Opcode 15: `ORA` (R121), mode `ZPXI` (R91). -/
def execOraZpxi (b : Byte) (s : State) : Result := execute .operandConsuming (.zpxi b) oraHandler s

/-- Opcode 19: `ORA` (R121), mode `ABSY` (R92). -/
def execOraAbsy (w : Addr) (s : State) : Result := execute .operandConsuming (.absy w) oraHandler s

/-- Opcode 1D: `ORA` (R121), mode `ABSX` (R93). -/
def execOraAbsx (w : Addr) (s : State) : Result := execute .operandConsuming (.absx w) oraHandler s

/-- Opcode 41: `EOR` (R122), mode `ZPXD` (R86). -/
def execEorZpxd (b : Byte) (s : State) : Result := execute .operandConsuming (.zpxd b) eorHandler s

/-- Opcode 45: `EOR` (R122), mode `ZP` (R87). -/
def execEorZp (b : Byte) (s : State) : Result := execute .operandConsuming (.zp b) eorHandler s

/-- Opcode 49: `EOR` (R122), mode `IMM` (R85). -/
def execEorImm (v : Byte) (s : State) : Result := execute .operandConsuming (.imm v) eorHandler s

/-- Opcode 4D: `EOR` (R122), mode `ABS` (R89). -/
def execEorAbs (w : Addr) (s : State) : Result := execute .operandConsuming (.abs w) eorHandler s

/-- Opcode 51: `EOR` (R122), mode `INDY` (R90). -/
def execEorIndy (b : Byte) (s : State) : Result := execute .operandConsuming (.indy b) eorHandler s

/-- Opcode 55: `EOR` (R122), mode `ZPXI` (R91). -/
def execEorZpxi (b : Byte) (s : State) : Result := execute .operandConsuming (.zpxi b) eorHandler s

/-- Opcode 59: `EOR` (R122), mode `ABSY` (R92). -/
def execEorAbsy (w : Addr) (s : State) : Result := execute .operandConsuming (.absy w) eorHandler s

/-- Opcode 5D: `EOR` (R122), mode `ABSX` (R93). -/
def execEorAbsx (w : Addr) (s : State) : Result := execute .operandConsuming (.absx w) eorHandler s

/-- Opcode A1: `LDA` (R123), mode `ZPXD` (R86). -/
def execLdaZpxd (b : Byte) (s : State) : Result := execute .operandConsuming (.zpxd b) ldaHandler s

/-- Opcode A5: `LDA` (R123), mode `ZP` (R87). -/
def execLdaZp (b : Byte) (s : State) : Result := execute .operandConsuming (.zp b) ldaHandler s

/-- Opcode A9: `LDA` (R123), mode `IMM` (R85). -/
def execLdaImm (v : Byte) (s : State) : Result := execute .operandConsuming (.imm v) ldaHandler s

/-- Opcode AD: `LDA` (R123), mode `ABS` (R89). -/
def execLdaAbs (w : Addr) (s : State) : Result := execute .operandConsuming (.abs w) ldaHandler s

/-- Opcode B1: `LDA` (R123), mode `INDY` (R90). -/
def execLdaIndy (b : Byte) (s : State) : Result := execute .operandConsuming (.indy b) ldaHandler s

/-- Opcode B5: `LDA` (R123), mode `ZPXI` (R91). -/
def execLdaZpxi (b : Byte) (s : State) : Result := execute .operandConsuming (.zpxi b) ldaHandler s

/-- Opcode B9: `LDA` (R123), mode `ABSY` (R92). -/
def execLdaAbsy (w : Addr) (s : State) : Result := execute .operandConsuming (.absy w) ldaHandler s

/-- Opcode BD: `LDA` (R123), mode `ABSX` (R93). -/
def execLdaAbsx (w : Addr) (s : State) : Result := execute .operandConsuming (.absx w) ldaHandler s

/-- Opcode A2: `LDX` (R124), mode `IMM` (R85). -/
def execLdxImm (v : Byte) (s : State) : Result := execute .operandConsuming (.imm v) ldxHandler s

/-- Opcode A6: `LDX` (R124), mode `ZP` (R87). -/
def execLdxZp (b : Byte) (s : State) : Result := execute .operandConsuming (.zp b) ldxHandler s

/-- Opcode AE: `LDX` (R124), mode `ABS` (R89). -/
def execLdxAbs (w : Addr) (s : State) : Result := execute .operandConsuming (.abs w) ldxHandler s

/-- Opcode B6: `LDX` (R124), mode `ZPXI` (R91). -/
def execLdxZpxi (b : Byte) (s : State) : Result := execute .operandConsuming (.zpxi b) ldxHandler s

/-- Opcode BE: `LDX` (R124), mode `ABSX` (R93). -/
def execLdxAbsx (w : Addr) (s : State) : Result := execute .operandConsuming (.absx w) ldxHandler s

/-- Opcode A0: `LDY` (R125), mode `IMM` (R85). -/
def execLdyImm (v : Byte) (s : State) : Result := execute .operandConsuming (.imm v) ldyHandler s

/-- Opcode A4: `LDY` (R125), mode `ZP` (R87). -/
def execLdyZp (b : Byte) (s : State) : Result := execute .operandConsuming (.zp b) ldyHandler s

/-- Opcode AC: `LDY` (R125), mode `ABS` (R89). -/
def execLdyAbs (w : Addr) (s : State) : Result := execute .operandConsuming (.abs w) ldyHandler s

/-- Opcode B4: `LDY` (R125), mode `ZPXI` (R91). -/
def execLdyZpxi (b : Byte) (s : State) : Result := execute .operandConsuming (.zpxi b) ldyHandler s

/-- Opcode BC: `LDY` (R125), mode `ABSX` (R93). -/
def execLdyAbsx (w : Addr) (s : State) : Result := execute .operandConsuming (.absx w) ldyHandler s

/-- Opcode E6: `INC` (R126), mode `ZP` (R87). -/
def execIncZp (b : Byte) (s : State) : Result := execute .operandConsuming (.zp b) incHandler s

/-- Opcode EE: `INC` (R126), mode `ABS` (R89). -/
def execIncAbs (w : Addr) (s : State) : Result := execute .operandConsuming (.abs w) incHandler s

/-- Opcode F6: `INC` (R126), mode `ZPXI` (R91). -/
def execIncZpxi (b : Byte) (s : State) : Result := execute .operandConsuming (.zpxi b) incHandler s

/-- Opcode FE: `INC` (R126), mode `ABSX` (R93). -/
def execIncAbsx (w : Addr) (s : State) : Result := execute .operandConsuming (.absx w) incHandler s

/-- Opcode C6: `DEC` (R127), mode `ZP` (R87). -/
def execDecZp (b : Byte) (s : State) : Result := execute .operandConsuming (.zp b) decHandler s

/-- Opcode CE: `DEC` (R127), mode `ABS` (R89). -/
def execDecAbs (w : Addr) (s : State) : Result := execute .operandConsuming (.abs w) decHandler s

/-- Opcode D6: `DEC` (R127), mode `ZPXI` (R91). -/
def execDecZpxi (b : Byte) (s : State) : Result := execute .operandConsuming (.zpxi b) decHandler s

/-- Opcode DE: `DEC` (R127), mode `ABSX` (R93). -/
def execDecAbsx (w : Addr) (s : State) : Result := execute .operandConsuming (.absx w) decHandler s

/-- Opcode 81: `STA` (R128), mode `ZPXD` (R86). -/
def execStaZpxd (b : Byte) (s : State) : Result := execute .operandConsuming (.zpxd b) staHandler s

/-- Opcode 85: `STA` (R128), mode `ZP` (R87). -/
def execStaZp (b : Byte) (s : State) : Result := execute .operandConsuming (.zp b) staHandler s

/-- Opcode 8D: `STA` (R128), mode `ABS` (R89). -/
def execStaAbs (w : Addr) (s : State) : Result := execute .operandConsuming (.abs w) staHandler s

/-- Opcode 91: `STA` (R128), mode `INDY` (R90). -/
def execStaIndy (b : Byte) (s : State) : Result := execute .operandConsuming (.indy b) staHandler s

/-- Opcode 95: `STA` (R128), mode `ZPXI` (R91). -/
def execStaZpxi (b : Byte) (s : State) : Result := execute .operandConsuming (.zpxi b) staHandler s

/-- Opcode 99: `STA` (R128), mode `ABSY` (R92). -/
def execStaAbsy (w : Addr) (s : State) : Result := execute .operandConsuming (.absy w) staHandler s

/-- Opcode 9D: `STA` (R128), mode `ABSX` (R93). -/
def execStaAbsx (w : Addr) (s : State) : Result := execute .operandConsuming (.absx w) staHandler s

/-- Opcode 86: `STX` (R129), mode `ZP` (R87). -/
def execStxZp (b : Byte) (s : State) : Result := execute .operandConsuming (.zp b) stxHandler s

/-- Opcode 8E: `STX` (R129), mode `ABS` (R89). -/
def execStxAbs (w : Addr) (s : State) : Result := execute .operandConsuming (.abs w) stxHandler s

/-- Opcode 96: `STX` (R129), mode `ZPXI` (R91). -/
def execStxZpxi (b : Byte) (s : State) : Result := execute .operandConsuming (.zpxi b) stxHandler s

/-- Opcode 84: `STY` (R130), mode `ZP` (R87). -/
def execStyZp (b : Byte) (s : State) : Result := execute .operandConsuming (.zp b) styHandler s

/-- Opcode 8C: `STY` (R130), mode `ABS` (R89). -/
def execStyAbs (w : Addr) (s : State) : Result := execute .operandConsuming (.abs w) styHandler s

/-- Opcode 94: `STY` (R130), mode `ZPXI` (R91). -/
def execStyZpxi (b : Byte) (s : State) : Result := execute .operandConsuming (.zpxi b) styHandler s

/-- Opcode E8: `INX` (R131), mode `REGX` (R100). -/
def execInx (s : State) : Result := execute .implied .regx incHandler s

/-- Opcode C8: `INY` (R132), mode `REGY` (R100). -/
def execIny (s : State) : Result := execute .implied .regy incHandler s

/-- Opcode CA: `DEX` (R133), mode `REGX` (R100). -/
def execDex (s : State) : Result := execute .implied .regx decHandler s

/-- Opcode 88: `DEY` (R134), mode `REGY` (R100). -/
def execDey (s : State) : Result := execute .implied .regy decHandler s

end Sys2Proof.Machine
end

