-- ==== Sys2Proof/Machine/Shift.lean ====
section
/-! DEFINITION. 43_shift_rotate_bit.md: `ASL`, `LSR`, `ROL`, `ROR`, `BIT`. First each mnemonic's handler, then the meaning of each
row of the opcode table. -/

namespace Sys2Proof.Machine

/-- `ASL` (R140). -/
def aslHandler (op : Operand) (s : State) : Result :=
  readOperand op s fun m =>
    writeOperand op (aslResult m) (setNZ (aslResult m) { s with flagC := shiftOutLeft m })

/-- `LSR` (R141). -/
def lsrHandler (op : Operand) (s : State) : Result :=
  readOperand op s fun m =>
    writeOperand op (lsrResult m) (setNZ (lsrResult m) { s with flagC := shiftOutRight m })

/-- `ROL` (R142): the old `C` goes into bit 0. -/
def rolHandler (op : Operand) (s : State) : Result :=
  readOperand op s fun m =>
    writeOperand op (rolResult m s.flagC) (setNZ (rolResult m s.flagC) { s with flagC := shiftOutLeft m })

/-- `ROR` (R143): the old `C` goes into bit 7. -/
def rorHandler (op : Operand) (s : State) : Result :=
  readOperand op s fun m =>
    writeOperand op (rorResult m s.flagC) (setNZ (rorResult m s.flagC) { s with flagC := shiftOutRight m })

/-- `BIT` (R144): `N` and `V` from the operand itself, `Z` from the masked value. -/
def bitHandler (op : Operand) (s : State) : Result :=
  readOperand op s fun m =>
    .next { s with flagN := m.getLsbD 7, flagV := m.getLsbD 6, flagZ := decide (m &&& s.a = 0x00) }

/-- Opcode 06: `ASL` (R140), mode `ZP` (R87). -/
def execAslZp (b : Byte) (s : State) : Result := execute .operandConsuming (.zp b) aslHandler s

/-- Opcode 0A: `ASL` (R140), mode `ACC` (R88). -/
def execAslAcc (s : State) : Result := execute .operandConsuming .acc aslHandler s

/-- Opcode 0E: `ASL` (R140), mode `ABS` (R89). -/
def execAslAbs (w : Addr) (s : State) : Result := execute .operandConsuming (.abs w) aslHandler s

/-- Opcode 16: `ASL` (R140), mode `ZPXI` (R91). -/
def execAslZpxi (b : Byte) (s : State) : Result := execute .operandConsuming (.zpxi b) aslHandler s

/-- Opcode 1E: `ASL` (R140), mode `ABSX` (R93). -/
def execAslAbsx (w : Addr) (s : State) : Result := execute .operandConsuming (.absx w) aslHandler s

/-- Opcode 46: `LSR` (R141), mode `ZP` (R87). -/
def execLsrZp (b : Byte) (s : State) : Result := execute .operandConsuming (.zp b) lsrHandler s

/-- Opcode 4A: `LSR` (R141), mode `ACC` (R88). -/
def execLsrAcc (s : State) : Result := execute .operandConsuming .acc lsrHandler s

/-- Opcode 4E: `LSR` (R141), mode `ABS` (R89). -/
def execLsrAbs (w : Addr) (s : State) : Result := execute .operandConsuming (.abs w) lsrHandler s

/-- Opcode 56: `LSR` (R141), mode `ZPXI` (R91). -/
def execLsrZpxi (b : Byte) (s : State) : Result := execute .operandConsuming (.zpxi b) lsrHandler s

/-- Opcode 5E: `LSR` (R141), mode `ABSX` (R93). -/
def execLsrAbsx (w : Addr) (s : State) : Result := execute .operandConsuming (.absx w) lsrHandler s

/-- Opcode 26: `ROL` (R142), mode `ZP` (R87). -/
def execRolZp (b : Byte) (s : State) : Result := execute .operandConsuming (.zp b) rolHandler s

/-- Opcode 2A: `ROL` (R142), mode `ACC` (R88). -/
def execRolAcc (s : State) : Result := execute .operandConsuming .acc rolHandler s

/-- Opcode 2E: `ROL` (R142), mode `ABS` (R89). -/
def execRolAbs (w : Addr) (s : State) : Result := execute .operandConsuming (.abs w) rolHandler s

/-- Opcode 36: `ROL` (R142), mode `ZPXI` (R91). -/
def execRolZpxi (b : Byte) (s : State) : Result := execute .operandConsuming (.zpxi b) rolHandler s

/-- Opcode 3E: `ROL` (R142), mode `ABSX` (R93). -/
def execRolAbsx (w : Addr) (s : State) : Result := execute .operandConsuming (.absx w) rolHandler s

/-- Opcode 66: `ROR` (R143), mode `ZP` (R87). -/
def execRorZp (b : Byte) (s : State) : Result := execute .operandConsuming (.zp b) rorHandler s

/-- Opcode 6A: `ROR` (R143), mode `ACC` (R88). -/
def execRorAcc (s : State) : Result := execute .operandConsuming .acc rorHandler s

/-- Opcode 6E: `ROR` (R143), mode `ABS` (R89). -/
def execRorAbs (w : Addr) (s : State) : Result := execute .operandConsuming (.abs w) rorHandler s

/-- Opcode 76: `ROR` (R143), mode `ZPXI` (R91). -/
def execRorZpxi (b : Byte) (s : State) : Result := execute .operandConsuming (.zpxi b) rorHandler s

/-- Opcode 7E: `ROR` (R143), mode `ABSX` (R93). -/
def execRorAbsx (w : Addr) (s : State) : Result := execute .operandConsuming (.absx w) rorHandler s

/-- Opcode 24: `BIT` (R144), mode `ZP` (R87). -/
def execBitZp (b : Byte) (s : State) : Result := execute .operandConsuming (.zp b) bitHandler s

/-- Opcode 2C: `BIT` (R144), mode `ABS` (R89). -/
def execBitAbs (w : Addr) (s : State) : Result := execute .operandConsuming (.abs w) bitHandler s

end Sys2Proof.Machine
end

