-- ==== Sys2Proof/Machine/StackInterrupt.lean ====
section
/-! DEFINITION. 46_stack_interrupt.md: stack instructions, `BRK` and `RTI`; all in mode `IMP`, whose operand is `None` (R96). First each mnemonic's handler, then the meaning of each
row of the opcode table. -/

namespace Sys2Proof.Machine

/-- `PHA` (R194). -/
def phaHandler (_op : Operand) (s : State) : Result := .next (push s.a s)

/-- `PHP` (R195): the live value of every flag. -/
def phpHandler (_op : Operand) (s : State) : Result := .next (push (getStatus s) s)

/-- `PLA` (R196): no flag changes. -/
def plaHandler (_op : Operand) (s : State) : Result :=
  let t := pulled s
  .next { t with a := pullByte s }

/-- `PLP` (R197). -/
def plpHandler (_op : Operand) (s : State) : Result := .next (setStatus (pullByte s) (pulled s))

/-- `BRK` (R198): the return address skips the byte after the opcode. -/
def brkHandler (_op : Operand) (s : State) : Result := .next (takeBreak (s.pc + 1) s)

/-- `RTI` (R199). -/
def rtiHandler (_op : Operand) (s : State) : Result := .next (returnFromBreak s)

/-- Opcode 48: `PHA` (R194), mode `IMP` (R96). -/
def execPha (s : State) : Result := execute .implied .imp phaHandler s

/-- Opcode 08: `PHP` (R195), mode `IMP` (R96). -/
def execPhp (s : State) : Result := execute .implied .imp phpHandler s

/-- Opcode 68: `PLA` (R196), mode `IMP` (R96). -/
def execPla (s : State) : Result := execute .implied .imp plaHandler s

/-- Opcode 28: `PLP` (R197), mode `IMP` (R96). -/
def execPlp (s : State) : Result := execute .implied .imp plpHandler s

/-- Opcode 00: `BRK` (R198), mode `IMP` (R96). -/
def execBrk (s : State) : Result := execute .implied .imp brkHandler s

/-- Opcode 40: `RTI` (R199), mode `IMP` (R96). -/
def execRti (s : State) : Result := execute .implied .imp rtiHandler s

end Sys2Proof.Machine
end

