-- ==== Sys2Proof/Machine/Transfer.lean ====
section
/-! DEFINITION. 44_transfer_flag_nop.md: register transfers, flag instructions and `NOP`; all in mode `IMP`, whose operand is `None` (R96). First each mnemonic's handler, then the meaning of each
row of the opcode table. -/

namespace Sys2Proof.Machine

/-- `TAX` (R150). -/
def taxHandler (_op : Operand) (s : State) : Result := .next (setNZ s.a { s with x := s.a })

/-- `TAY` (R151). -/
def tayHandler (_op : Operand) (s : State) : Result := .next (setNZ s.a { s with y := s.a })

/-- `TXA` (R152). -/
def txaHandler (_op : Operand) (s : State) : Result := .next (setNZ s.x { s with a := s.x })

/-- `TYA` (R153). -/
def tyaHandler (_op : Operand) (s : State) : Result := .next (setNZ s.y { s with a := s.y })

/-- `TSX` (R154). -/
def tsxHandler (_op : Operand) (s : State) : Result := .next (setNZ s.sp { s with x := s.sp })

/-- `TXS` (R155): no flag changes. -/
def txsHandler (_op : Operand) (s : State) : Result := .next { s with sp := s.x }

/-- `CLC` (R156). -/
def clcHandler (_op : Operand) (s : State) : Result := .next { s with flagC := false }

/-- `CLD` (R157). -/
def cldHandler (_op : Operand) (s : State) : Result := .next { s with flagD := false }

/-- `CLI` (R158). -/
def cliHandler (_op : Operand) (s : State) : Result := .next { s with flagI := false }

/-- `CLV` (R159). -/
def clvHandler (_op : Operand) (s : State) : Result := .next { s with flagV := false }

/-- `SEC` (R160). -/
def secHandler (_op : Operand) (s : State) : Result := .next { s with flagC := true }

/-- `SED` (R161). -/
def sedHandler (_op : Operand) (s : State) : Result := .next { s with flagD := true }

/-- `SEI` (R162). -/
def seiHandler (_op : Operand) (s : State) : Result := .next { s with flagI := true }

/-- `NOP` (R163): nothing but what every step does. -/
def nopHandler (_op : Operand) (s : State) : Result := .next s

/-- Opcode AA: `TAX` (R150), mode `IMP` (R96). -/
def execTax (s : State) : Result := execute .implied .imp taxHandler s

/-- Opcode A8: `TAY` (R151), mode `IMP` (R96). -/
def execTay (s : State) : Result := execute .implied .imp tayHandler s

/-- Opcode 8A: `TXA` (R152), mode `IMP` (R96). -/
def execTxa (s : State) : Result := execute .implied .imp txaHandler s

/-- Opcode 98: `TYA` (R153), mode `IMP` (R96). -/
def execTya (s : State) : Result := execute .implied .imp tyaHandler s

/-- Opcode BA: `TSX` (R154), mode `IMP` (R96). -/
def execTsx (s : State) : Result := execute .implied .imp tsxHandler s

/-- Opcode 9A: `TXS` (R155), mode `IMP` (R96). -/
def execTxs (s : State) : Result := execute .implied .imp txsHandler s

/-- Opcode 18: `CLC` (R156), mode `IMP` (R96). -/
def execClc (s : State) : Result := execute .implied .imp clcHandler s

/-- Opcode D8: `CLD` (R157), mode `IMP` (R96). -/
def execCld (s : State) : Result := execute .implied .imp cldHandler s

/-- Opcode 58: `CLI` (R158), mode `IMP` (R96). -/
def execCli (s : State) : Result := execute .implied .imp cliHandler s

/-- Opcode B8: `CLV` (R159), mode `IMP` (R96). -/
def execClv (s : State) : Result := execute .implied .imp clvHandler s

/-- Opcode 38: `SEC` (R160), mode `IMP` (R96). -/
def execSec (s : State) : Result := execute .implied .imp secHandler s

/-- Opcode F8: `SED` (R161), mode `IMP` (R96). -/
def execSed (s : State) : Result := execute .implied .imp sedHandler s

/-- Opcode 78: `SEI` (R162), mode `IMP` (R96). -/
def execSei (s : State) : Result := execute .implied .imp seiHandler s

/-- Opcode EA: `NOP` (R163), mode `IMP` (R96). -/
def execNop (s : State) : Result := execute .implied .imp nopHandler s

end Sys2Proof.Machine
end

