-- ==== Sys2Proof/Machine/Fetch.lean ====
section
/-! DEFINITION. The fetch unit: the bytes of the instruction at `PC` and the instruction they decode to (R44, R80 to
R82), and the driver's placing of an instruction there. -/

namespace Sys2Proof.Machine

/-- `n` bytes at ascending addresses, each address `mod 65536` (R44). -/
def readBytes (s : State) (a : Addr) (n : Nat) : List Byte :=
  match n with
  | 0 => []
  | n + 1 => memRead a s :: readBytes s (a + 1) n

/-- Bytes stored at ascending addresses, each address `mod 65536` (R44). -/
def storeBytes (bytes : List Byte) (a : Addr) (s : State) : State :=
  match bytes with
  | [] => s
  | b :: rest => storeBytes rest (a + 1) (memWrite a b s)

/-- The opcode byte at `PC` (R81). -/
def fetchOpcode (s : State) : Byte := memRead s.pc s

/-- The bytes of the instruction at `PC`: as many as its opcode byte says (R69); only the opcode byte of an undefined
one (R211). -/
def fetchBytes (s : State) : List Byte := readBytes s s.pc (lengthOf (fetchOpcode s))

/-- The instruction at `PC`, `none` where the opcode byte spells no instruction (R80, R82). -/
def fetch (s : State) : Option Instr := decodeInstr (fetchBytes s)

/-- The driver's placing of bytes at `PC` (R232), in a core that steps (R80). -/
def placeAtPc (bytes : List Byte) (s : State) : State :=
  let t := storeBytes bytes s.pc s
  { t with halt := false }

end Sys2Proof.Machine
end

