-- ==== Sys2Proof/Machine/Run.lean ====
section
/-! DEFINITION. The step unit: what one step does (R80). `Step.lean` only calls it. -/

namespace Sys2Proof.Machine

/-- `step()` (R80): nothing while `HALT = 1`; else fetch and decode, then the whole instruction, or the fault of an
undefined opcode with `PC` still at it (R211). -/
def runStep (s : State) : Result :=
  if s.halt then .next s
  else
    match fetch s with
    | some i => exec i s
    | none => .next (raiseUndefinedOpcode (fetchOpcode s) s.pc s)

end Sys2Proof.Machine
end

