-- ==== Sys2Proof/Machine/Accesses.lean ====
section
/-! DEFINITION. The accesses a step makes on the memory port, in order: exactly the `MemRead` and `MemWrite` calls of the
pseudocode, the opcode byte read once (R46, D15). They are no state of the machine (R22); these functions list them
beside `step`, computed from the state before it with the addresses `exec` itself uses. -/

namespace Sys2Proof.Machine

/-- One use of the memory port (R9, R45). -/
inductive Access where
  | read (a : Addr)
  | write (a : Addr) (v : Byte)
  deriving DecidableEq, Repr

/-- Reads of `n` ascending addresses, each `mod 65536` (R44). -/
def readsFrom (a : Addr) (n : Nat) : List Access :=
  match n with
  | 0 => []
  | n + 1 => .read a :: readsFrom (a + 1) n

/-- The two reads of `Read16` (R42). -/
def read16Accesses (a : Addr) : List Access := [.read a, .read (a + 1)]

/-- The pointer bytes a mode dereferences: none but for `INDY`, `ZPXI` and `IND` (R84, R90, R91, R95). -/
def pointerAccesses (m : Mode) (s : State) : List Access :=
  match m with
  | .indy b => read16Accesses (zext16 b)
  | .zpxi b => read16Accesses (zeroPageX b s)
  | .ind p => read16Accesses p
  | .imm _ => []
  | .zpxd _ => []
  | .zp _ => []
  | .acc => []
  | .abs _ => []
  | .absy _ => []
  | .absx _ => []
  | .rel _ => []
  | .imp => []
  | .regx => []
  | .regy => []

/-- The access of `OperandRead` (R97). -/
def operandReadAccess (op : Operand) : List Access :=
  match op with
  | .memory a => [.read a]
  | _ => []

/-- The access of `OperandWrite` (R98). -/
def operandWriteAccess (op : Operand) (v : Byte) : List Access :=
  match op with
  | .memory a => [.write a v]
  | _ => []

/-- One read, then one write of the changed byte (R46, D21). -/
def modifyAccesses (op : Operand) (s : State) (f : Byte → Byte) : List Access :=
  match operandRead op s with
  | some m => operandReadAccess op ++ operandWriteAccess op (f m)
  | none => []

/-- The writes of a sequence of pushes that starts with `SP` at `sp` (R191). -/
def pushAccesses (sp : Byte) (bytes : List Byte) : List Access :=
  match bytes with
  | [] => []
  | b :: rest => .write (stackAddr sp) b :: pushAccesses (sp + 1) rest

/-- The reads of `n` pulls that start with `SP` at `sp` (R192). -/
def pullAccesses (sp : Byte) (n : Nat) : List Access :=
  match n with
  | 0 => []
  | n + 1 => .read (stackAddr (sp - 1)) :: pullAccesses (sp - 1) n

/-- The status byte `BRK` pushes: `B` already set, `I` not yet (R198). -/
def breakStatus (s : State) : Byte := getStatus { s with flagB := true }

/-- The accesses of a handler, from the state it sees (files 41 to 46). -/
def handlerAccesses (mn : Mnemonic) (op : Operand) (s : State) : List Access :=
  match mn with
  | .adc | .sbc | .cmp | .cpx | .cpy | .and | .ora | .eor | .lda | .ldx | .ldy | .bit => operandReadAccess op
  | .sta => operandWriteAccess op s.a
  | .stx => operandWriteAccess op s.x
  | .sty => operandWriteAccess op s.y
  | .inc | .inx | .iny => modifyAccesses op s fun m => m + 1
  | .dec | .dex | .dey => modifyAccesses op s fun m => m - 1
  | .asl => modifyAccesses op s aslResult
  | .lsr => modifyAccesses op s lsrResult
  | .rol => modifyAccesses op s fun m => rolResult m s.flagC
  | .ror => modifyAccesses op s fun m => rorResult m s.flagC
  | .tax | .tay | .txa | .tya | .tsx | .txs | .clc | .cld | .cli | .clv | .sec | .sed | .sei | .nop => []
  | .bcc | .bcs | .beq | .bmi | .bne | .bpl | .bvc | .bvs | .jmp => []
  | .jsr => pushAccesses s.sp [hiByte (s.pc - 1), loByte (s.pc - 1)]
  | .rts => pullAccesses s.sp 2
  | .pha => pushAccesses s.sp [s.a]
  | .php => pushAccesses s.sp [getStatus s]
  | .pla | .plp => pullAccesses s.sp 1
  | .brk => pushAccesses s.sp [hiByte (s.pc + 1), loByte (s.pc + 1), breakStatus s] ++ read16Accesses Config.brkVector
  | .rti => pullAccesses s.sp 3

/-- The accesses of one instruction at `PC`: its bytes, the pointer, then the handler's (R46, R80). -/
def instrAccesses (i : Instr) (s : State) : List Access :=
  let fetched := advancePc 1 s
  readsFrom s.pc i.length ++ pointerAccesses i.mode fetched ++
    handlerAccesses i.mnemonic (resolve i.mnemonic.group i.mode fetched) (advancePc i.mode.operandBytes fetched)

/-- The accesses of one step: none while `HALT = 1` (R80); the opcode byte alone where it is undefined (R211). -/
def stepAccesses (s : State) : List Access :=
  if s.halt then []
  else
    match fetch s with
    | some i => instrAccesses i s
    | none => [.read s.pc]

/-- Memory after the writes of a sequence of accesses, in order (R49). -/
def replayWrites (l : List Access) (m : Memory) : Memory :=
  match l with
  | [] => m
  | .read _ :: rest => replayWrites rest m
  | .write a v :: rest => replayWrites rest (m.write a.toNat v)

/-- The addresses a sequence of accesses reads. -/
def readAddrs (l : List Access) : List Addr :=
  match l with
  | [] => []
  | .read a :: rest => a :: readAddrs rest
  | .write _ _ :: rest => readAddrs rest

/-- The addresses a sequence of accesses writes. -/
def writtenAddrs (l : List Access) : List Addr :=
  match l with
  | [] => []
  | .read _ :: rest => writtenAddrs rest
  | .write a _ :: rest => a :: writtenAddrs rest

end Sys2Proof.Machine
end

