-- ==== Sys2Proof/Machine/Driver.lean ====
section
/-! DEFINITION. The block's events and its observation port (R9): what the driver can do between two steps (R25, R230,
R232, D16, D27). A step is one of the events, so nothing the driver does can fall inside one (R4, R49). Then the launch
of a run (R233) and the end of a run, which is the model's convention (R236, D28). -/

namespace Sys2Proof.Machine

/-- Memory holding an image over zeros, later entries over earlier ones (R40, R232). -/
def Memory.ofImage (image : List (Addr × Byte)) : Memory :=
  image.foldl (fun m c => m.write c.1.toNat c.2) []

/-- `reset` (R230): the core at the values of R24. What it leaves in memory is a parameter, since the spec fixes it at
power-on only (all zero: the empty image; D16, U20). -/
def resetWith (image : List (Addr × Byte)) : State := { State.reset with mem := Memory.ofImage image }

/-- The events of R9. `storeByte` is the driver's or the environment's write in the memory array, outside the core
(R232, `ENV_BETWEEN_STEPS`). -/
inductive Event where
  | reset (image : List (Addr × Byte))
  | loadPc (t : Addr)
  | storeByte (a : Addr) (v : Byte)
  | step
  deriving DecidableEq, Repr

/-- The machine's answer to an event. -/
def onEvent (e : Event) (s : State) : Result :=
  match e with
  | .reset image => .next (resetWith image)
  | .loadPc t => .next (setPc t s)
  | .storeByte a v => .next (memWrite a v s)
  | .step => step s

/-- The observation port, with the packed status byte (R9, R17, R25). -/
structure Observation where
  a : Byte
  x : Byte
  y : Byte
  sp : Byte
  pc : Addr
  cyc : Addr
  p : Byte
  halted : Bool
  faultOpcode : Byte
  faultAddr : Addr
  deriving DecidableEq, Repr

/-- What the driver sees of the core between two steps (R25). -/
def observe (s : State) : Observation where
  a := s.a
  x := s.x
  y := s.y
  sp := s.sp
  pc := s.pc
  cyc := s.cyc
  p := getStatus s
  halted := s.halt
  faultOpcode := s.faultOpcode
  faultAddr := s.faultAddr

/-! ### Launching a run and ending it (R232, R233, R236) -/

/-- What a run is launched with: the memory image and the entry point (R233), and the address at which this model calls
the run ended (R236). -/
structure Launch where
  image : List (Addr × Byte)
  entry : Addr
  finish : Addr
  deriving DecidableEq, Repr

/-- The launch state: the state of R230 with the driver's image in memory and `PC` at the entry point (R233). -/
def launchState (l : Launch) : State := setPc l.entry (resetWith l.image)

/-- The end of a run, the model's own convention as R236 and D28 ask for one (DESIGN CHOICE, log entry 11): between two
steps, `PC` equals the launch's address. `HALT = 1` is a fault, never a result. -/
def ended (l : Launch) (s : State) : Bool := !s.halt && s.pc == l.finish

/-- The state in which a run from `s` ends, within `n` steps; `none` if it does not end by then. A halted run never
ends (R236). -/
def runFrom (l : Launch) (n : Nat) (s : State) : Option State :=
  if ended l s then some s
  else
    match n with
    | 0 => none
    | n + 1 =>
      match step s with
      | .next t => runFrom l n t
      | .fault _ => none
      | .refused _ => none

/-- The result of a launch within `n` steps. -/
def runResult (l : Launch) (n : Nat) : Option State := runFrom l n (launchState l)

end Sys2Proof.Machine
end

