-- ==== Sys2Proof/Safety.lean ====
section
/-! DEFINITION. What counts as a safe run, and the invariants claims use. -/

namespace Sys2Proof.Machine

/-- A byte that spells no instruction (R67). -/
def undefinedOpcode (op : Byte) : Bool := (shapeOf op).isNone

/-- The core has not halted: no undefined opcode has been executed since reset. The fault state is never a result of a
run (R236). -/
def Safe (s : State) : Prop := s.halt = false

/-- What every event keeps: memory in its canonical form, and `U = 1` (R16, R233). -/
structure CoreInv (s : State) : Prop where
  memory : s.mem.wf = true
  unused : s.flagU = true

/-- The fault latch tells the truth: while it is clear the records hold their reset values (U21), while it is set `PC`
stands at the recorded address and the byte there is the recorded undefined opcode (R21, R211). -/
def FaultRecord (s : State) : Prop :=
  if s.halt then
    s.faultAddr = s.pc ∧ s.faultOpcode = memRead s.pc s ∧ undefinedOpcode s.faultOpcode = true
  else s.faultOpcode = 0x00 ∧ s.faultAddr = 0x0000

/-- What every step keeps. -/
structure StepInv (s : State) : Prop where
  core : CoreInv s
  fault : FaultRecord s

/-! ### The words of the claims -/

/-- The operand an instruction resolves to (R84). -/
def operandOf (i : Instr) (s : State) : Operand := resolve i.mnemonic.group i.mode s

/-- What an instruction does beside its handler: `PC` past its bytes, one tick of `CYC` (R80, R101). -/
def stepped (i : Instr) (s : State) : State :=
  { s with pc := s.pc + BitVec.ofNat 16 i.length, cyc := s.cyc + 1 }

/-- A mnemonic has exactly these rows of the opcode table: opcode byte and mode (R66). -/
def HasRows (mn : Mnemonic) (rows : List (Byte × ModeId)) : Prop :=
  ∀ i : Instr, i.mnemonic = mn ↔ (i.opcode, i.mode.id) ∈ rows

/-- The table of R63: the mode and the number of operand bytes that the fields `g` and `b0` give. -/
def pathMode (g : BitVec 3) (b0 : Bool) : ModeId × Nat :=
  match g.toNat, b0 with
  | 0, false => (.imm, 1)
  | 0, true => (.zpxd, 1)
  | 1, _ => (.zp, 1)
  | 2, false => (.acc, 0)
  | 2, true => (.imm, 1)
  | 3, _ => (.abs, 2)
  | 4, _ => (.indy, 1)
  | 5, _ => (.zpxi, 1)
  | 6, _ => (.absy, 2)
  | _, _ => (.absx, 2)

/-- The 105 bytes of R67, in its order. -/
def undefinedBytes : List Byte :=
  [0x02, 0x03, 0x04, 0x07, 0x0B, 0x0C, 0x0F, 0x12, 0x13, 0x14, 0x17, 0x1A, 0x1B, 0x1C, 0x1F] ++
  [0x22, 0x23, 0x27, 0x2B, 0x2F, 0x32, 0x33, 0x34, 0x37, 0x3A, 0x3B, 0x3C, 0x3F] ++
  [0x42, 0x43, 0x44, 0x47, 0x4B, 0x4F, 0x52, 0x53, 0x54, 0x57, 0x5A, 0x5B, 0x5C, 0x5F] ++
  [0x62, 0x63, 0x64, 0x67, 0x6B, 0x6F, 0x72, 0x73, 0x74, 0x77, 0x7A, 0x7B, 0x7C, 0x7F] ++
  [0x80, 0x82, 0x83, 0x87, 0x89, 0x8B, 0x8F, 0x92, 0x93, 0x97, 0x9B, 0x9C, 0x9E, 0x9F] ++
  [0xA3, 0xA7, 0xAB, 0xAF, 0xB2, 0xB3, 0xB7, 0xBB, 0xBF] ++
  [0xC2, 0xC3, 0xC7, 0xCB, 0xCF, 0xD2, 0xD3, 0xD4, 0xD7, 0xDA, 0xDB, 0xDC, 0xDF] ++
  [0xE2, 0xE3, 0xE7, 0xEB, 0xEF, 0xF2, 0xF3, 0xF4, 0xF7, 0xFA, 0xFB, 0xFC, 0xFF]

/-- `s` with the flags that no instruction but `PHP` and `BRK` reads (R20) given other values. -/
def withInertFlags (fi fd fb : Bool) (s : State) : State := { s with flagI := fi, flagD := fd, flagB := fb }

end Sys2Proof.Machine
end

