-- ==== Sys2Proof/Certificates/Slice0/Obligations.lean ====
section
/-! DEFINITION. The statements for the provers. Each says what the machine does, from a numbered rule of the spec. Where
a clause rests on one of the spec's own decisions, the docstring names it and OBLIGATIONS.json gives basis 'derived'. The
opcode bytes are the spec's decision D1 (log entry 9) in every statement that names one, the wrap of `PC` is its D7 and
the tick of `CYC` its D14 in every statement that gives the state after an instruction. -/

open Sys2Proof Sys2Proof.Machine

/-- The decoder reads the example encodings of R70 (E8, 0A, A9 10, A5 10, A1 10, B5 10, B1 10, AD 12 34, BE 12 34, B9 12
34, 6C 12 34, D0 F9) and one more word of each family (R66) as the instructions they stand for, two-byte operands
high byte first. Rests on: 30_encoding.md section 7, R70, 30_encoding.md section 4, R66. The byte values are the
spec's decision D1. -/
def Obligations.DecodesTheSpecsWords : Prop :=
  decodeInstr [0xE8] = some .inx ∧ decodeInstr [0x0A] = some .aslAcc ∧
  decodeInstr [0xA9, 0x10] = some (.ldaImm 0x10) ∧ decodeInstr [0xA5, 0x10] = some (.ldaZp 0x10) ∧
  decodeInstr [0xA1, 0x10] = some (.ldaZpxd 0x10) ∧ decodeInstr [0xB5, 0x10] = some (.ldaZpxi 0x10) ∧
  decodeInstr [0xB1, 0x10] = some (.ldaIndy 0x10) ∧ decodeInstr [0xAD, 0x12, 0x34] = some (.ldaAbs 0x1234) ∧
  decodeInstr [0xBE, 0x12, 0x34] = some (.ldxAbsx 0x1234) ∧ decodeInstr [0xB9, 0x12, 0x34] = some (.ldaAbsy 0x1234) ∧
  decodeInstr [0x6C, 0x12, 0x34] = some (.jmpInd 0x1234) ∧ decodeInstr [0xD0, 0xF9] = some (.bne 0xF9) ∧
  decodeInstr [0x69, 0x50] = some (.adcImm 0x50) ∧ decodeInstr [0x24, 0x10] = some (.bitZp 0x10) ∧
  decodeInstr [0x9A] = some .txs ∧ decodeInstr [0x20, 0x20, 0x00] = some (.jsr 0x2000) ∧ decodeInstr [0x00] = some .brk

/-- For every instruction of the 151 rows, with every operand at every value, decoding its encoded bytes followed by any
bytes gives exactly that instruction and exactly those following bytes. Rests on: 30_encoding.md R60, 30_encoding.md
R65, 30_encoding.md R66, 30_encoding.md R69, 20_memory.md R44. -/
def Obligations.DecodeReadsBackEncode : Prop :=
  ∀ (i : Instr) (rest : List Byte), decode (encode i ++ rest) = .ok (i, rest)

/-- Where a byte sequence decodes to an instruction and a rest, the sequence is the encoding of that instruction
followed by that rest: no two byte sequences spell one instruction and no bit of an encoding is dropped. Rests on:
30_encoding.md R60, 30_encoding.md R66, 30_encoding.md R71. -/
def Obligations.EncodeRestoresDecodedBytes : Prop :=
  ∀ (bytes rest : List Byte) (i : Instr), decode bytes = .ok (i, rest) → bytes = encode i ++ rest

/-- For every instruction of the operand-consuming group the mode and the number of operand bytes are those of the ten-
path table, read from opcode[4:2] and opcode[0] alone. Rests on: 30_encoding.md R63, 30_encoding.md R61,
92_eei_decisions.md D1, D2. That the group field is opcode[4:2] is the spec's decision D2, the opcode bytes are its
D1 (log entry 9). -/
def Obligations.FieldBitsGiveTheMode : Prop :=
  ∀ i : Instr, i.mnemonic.group = .operandConsuming →
    (i.mode.id, i.mode.operandBytes) = pathMode (modeGroup i.opcode) (modeBit0 i.opcode)

/-- For every instruction of the implied group: the eight branch opcodes have mode REL, 20 and 4C mode ABS, 6C mode IND,
E8 and CA mode REGX, C8 and 88 mode REGY, every other mode IMP. Rests on: 30_encoding.md section 2, R64,
92_eei_decisions.md D4, D5, D24. The forms are the spec's decision D24; `INX`, `INY`, `DEX`, `DEY` are its decision
D4, `NOP` its D5. -/
def Obligations.ImpliedFormsPerOpcode : Prop :=
  ∀ i : Instr, i.mnemonic.group = .implied →
    i.mode.id =
      if i.opcode ∈ [0x10, 0x30, 0x50, 0x70, 0x90, 0xB0, 0xD0, 0xF0] then .rel
      else if i.opcode ∈ [0x20, 0x4C] then .abs
      else if i.opcode = 0x6C then .ind
      else if i.opcode ∈ [0xE8, 0xCA] then .regx
      else if i.opcode ∈ [0xC8, 0x88] then .regy
      else .imp

/-- An instruction in mode IMP, ACC, REGX or REGY is its opcode byte; in mode IMM, ZP, ZPXD, ZPXI, INDY or REL the
opcode byte and one byte; in mode ABS, ABSX, ABSY or IND the opcode byte, the high byte and the low byte of its
16-bit operand. Two instructions with one opcode byte have one mnemonic, one mode and one length, and the decoder
gets the length from the opcode byte. Rules: R60. -/
def Obligations.InstructionFormats : Prop :=
  (∀ i : Instr, i.mode.id ∈ [.imp, .acc, .regx, .regy] → encode i = [i.opcode]) ∧
  (∀ i : Instr, i.mode.id ∈ [.imm, .zp, .zpxd, .zpxi, .indy, .rel] → ∃ b : Byte, encode i = [i.opcode, b]) ∧
  (∀ i : Instr, i.mode.id ∈ [.abs, .absx, .absy, .ind] →
    ∃ (w : Addr) (hi lo : Byte), i.mode ∈ [.abs w, .absx w, .absy w, .ind w] ∧
      w.toNat = hi.toNat * 256 + lo.toNat ∧ encode i = [i.opcode, hi, lo]) ∧
  (∀ i j : Instr, i.opcode = j.opcode →
    i.mnemonic = j.mnemonic ∧ i.mode.id = j.mode.id ∧ (encode i).length = (encode j).length) ∧
  ∀ i : Instr, lengthOf i.opcode = (encode i).length

/-- Where HALT is 0 and the three bytes at PC, PC + 1, PC + 2 (mod 65536) decode to an instruction, step is exec of that
instruction at that state. exec is the whole instruction: it moves PC past the bytes and ticks CYC itself, and step
adds nothing. Rests on: 40_step_and_operands.md section 1, R80, 40_step_and_operands.md section 1, R82, 20_memory.md
R44. -/
def Obligations.StepRunsTheDecodedInstruction : Prop :=
  ∀ (s : State) (i : Instr) (rest : List Byte), s.halt = false →
    decode [memRead s.pc s, memRead (s.pc + 1) s, memRead (s.pc + 2) s] = .ok (i, rest) →
    step s = exec i s

/-- Whatever memory held, after the bytes of an instruction have been written at PC and up (mod 65536) the next step of
a core that has not halted is that instruction. Rests on: 20_memory.md R52, 20_memory.md R44,
40_step_and_operands.md R80. -/
def Obligations.StoredInstructionIsRun : Prop :=
  ∀ (i : Instr) (s : State), s.halt = false →
    step (storeBytes (encode i) s.pc s) = exec i (storeBytes (encode i) s.pc s)

/-- A byte is undefined exactly if it is one of the 105 listed, which are 105 different bytes; a sequence that begins
with one is rejected as an undefined opcode; a step of a core that has not halted with such a byte at PC sets HALT,
records the byte and PC, and changes nothing else (PC and CYC included). Rests on: 30_encoding.md section 5, R67,
60_exceptions.md section 1, R211, 92_eei_decisions.md D3. The policy is the spec's decision D3 among the three the
source allows. -/
def Obligations.UndefinedOpcodeHalts : Prop :=
  undefinedBytes.length = 105 ∧ undefinedBytes.Nodup ∧
  (∀ b : Byte, undefinedOpcode b = true ↔ b ∈ undefinedBytes) ∧
  (∀ (b : Byte) (rest : List Byte), b ∈ undefinedBytes → decode (b :: rest) = .error (.undefinedOpcode b)) ∧
  ∀ s : State, s.halt = false → memRead s.pc s ∈ undefinedBytes →
    step s = .next { s with halt := true, faultOpcode := memRead s.pc s, faultAddr := s.pc }

/-- For every state with HALT = 1 the step answers the same state and makes no memory access; and of the events of the
block (a reset, a load of PC, a write in memory, a step), each answers a next state, in which HALT is 0 exactly if
the event is a reset. Rests on: 10_state.md section 5, R21, 40_step_and_operands.md R80, 60_exceptions.md R211,
20_memory.md R46, 70_reset_and_hazards.md R230, 92_eei_decisions.md D16, D22, D27. The spec's decision D22 (log
entry 1); the events are its decisions D16 and D27 (log entries 6 and 7); the list of accesses is log entry 8. -/
def Obligations.HaltedStepChangesNothing : Prop :=
  (∀ s : State, s.halt = true → step s = .next s ∧ stepAccesses s = []) ∧
  ∀ (e : Event) (s : State), s.halt = true →
    ∃ t : State, onEvent e s = .next t ∧ (t.halt = false ↔ ∃ image, e = .reset image)

/-- A step of a core that has not halted always answers a next state, and in it HALT is 1 exactly if the byte at PC was
one of the 105 undefined ones. Rests on: 60_exceptions.md R210, 60_exceptions.md R211, 60_exceptions.md R217,
92_eei_decisions.md D3. The halting policy is the spec's decision D3. -/
def Obligations.HaltOnlyByUndefinedOpcode : Prop :=
  ∀ s : State, s.halt = false →
    ∃ t : State, step s = .next t ∧ (t.halt = true ↔ memRead s.pc s ∈ undefinedBytes)

/-- For each of the 151 rows, every operand value and every state, exec answers a next state in which CYC is one more
(mod 65536) and HALT, the fault records and U are unchanged: nothing faults, no instruction is privileged, and no
operand is ever read or written that has no meaning. Rests on: 60_exceptions.md R210, 60_exceptions.md R217,
40_step_and_operands.md R99, 10_state.md R14, 10_state.md R16, 10_state.md R20, 92_eei_decisions.md D13, D14. Covers
every constructor of `Instr`. That U is unchanged in every state rests on R16 and R20; that PLP and RTI leave it
also where U = 0 is the model's choice (log entry 10), that they ignore bit 5 the spec's decision D13, the tick and
its wrap its D14. -/
def Obligations.EveryInstructionCompletes : Prop :=
  ∀ (i : Instr) (s : State), ∃ t : State, exec i s = .next t ∧ t.cyc = s.cyc + 1 ∧ t.halt = s.halt ∧
    t.faultOpcode = s.faultOpcode ∧ t.faultAddr = s.faultAddr ∧ t.flagU = s.flagU

/-- For every instruction but the branches, JMP, JSR, RTS, BRK and RTI, PC ends 1, 2 or 3 above the opcode address (mod
65536) as the mode has 0, 1 or 2 operand bytes. Rests on: 40_step_and_operands.md section 6, R101. R101 is marked by
the spec as derived from its other rules. -/
def Obligations.PcPassesTheInstruction : Prop :=
  ∀ (i : Instr) (s : State),
    i.mnemonic ∉ [.bcc, .bcs, .beq, .bmi, .bne, .bpl, .bvc, .bvs, .jmp, .jsr, .rts, .brk, .rti] →
    ∃ t : State, exec i s = .next t ∧
      t.pc = s.pc + (if i.mode.id ∈ [.imp, .acc, .regx, .regy] then 1
        else if i.mode.id ∈ [.imm, .zp, .zpxd, .zpxi, .indy, .rel] then 2 else 3)

/-- In each of these modes the resolver gives the operand, consumes the number of operand bytes and reads the pointer
bytes that the rule of the mode states; ABS is a memory operand in the operand-consuming group and a target in the
implied group. Only the loads, compares, ADC, SBC and the logic instructions have an IMM form, only opcodes 0A, 2A,
4A, 6A are ACC, only the eight branches REL, and BRK is IMP. Rests on: 40_step_and_operands.md R85,
40_step_and_operands.md R86, 40_step_and_operands.md R87, 40_step_and_operands.md R88, 40_step_and_operands.md R89,
40_step_and_operands.md R90, 40_step_and_operands.md R91, 40_step_and_operands.md R94, 40_step_and_operands.md R96,
20_memory.md R42, 92_eei_decisions.md D9, D24. That the second pointer byte of INDY and ZPXI follows at the next
address (0x0100 after 0x00FF) is the spec's decision D9; ABS as a target and REL are its D24 (log entry 9). The
pointer reads are in the model's access list (log entry 8). -/
def Obligations.ResolverFollowsTheDocumentsPaths : Prop :=
  (∀ i : Instr, i.mode.id = .imm → i.mnemonic ∈ [.lda, .ldx, .ldy, .cmp, .cpx, .cpy, .adc, .sbc, .and, .ora, .eor]) ∧
  (∀ i : Instr, i.mode = .acc ↔ i.opcode ∈ [0x0A, 0x2A, 0x4A, 0x6A]) ∧
  (∀ i : Instr, i.mode.id = .rel ↔ i.mnemonic ∈ [.bcc, .bcs, .beq, .bmi, .bne, .bpl, .bvc, .bvs]) ∧
  Instr.brk.mode = .imp ∧
  ∀ (g : Group) (s : State) (b : Byte) (w : Addr),
    (resolve g (.imm b) s = .immediate b ∧ (Mode.imm b).operandBytes = 1 ∧ pointerAccesses (.imm b) s = []) ∧
    (resolve g (.zpxd b) s = .memory ((b + s.x).setWidth 16) ∧ (Mode.zpxd b).operandBytes = 1 ∧
      pointerAccesses (.zpxd b) s = []) ∧
    (resolve g (.zp b) s = .memory (b.setWidth 16) ∧ (Mode.zp b).operandBytes = 1 ∧ pointerAccesses (.zp b) s = []) ∧
    (resolve g .acc s = .accumulator ∧ Mode.acc.operandBytes = 0 ∧ pointerAccesses .acc s = []) ∧
    (resolve .operandConsuming (.abs w) s = .memory w ∧ resolve .implied (.abs w) s = .target w ∧
      (Mode.abs w).operandBytes = 2 ∧ pointerAccesses (.abs w) s = []) ∧
    (∃ a : Addr, resolve g (.indy b) s = .memory a ∧
      a.toNat = ((memRead (b.setWidth 16) s).toNat * 256 + (memRead (b.setWidth 16 + 1) s).toNat + s.y.toNat) % 256 ∧
      (Mode.indy b).operandBytes = 1 ∧
      pointerAccesses (.indy b) s = [.read (b.setWidth 16), .read (b.setWidth 16 + 1)]) ∧
    (∃ a p : Addr, p = (b + s.x).setWidth 16 ∧ resolve g (.zpxi b) s = .memory a ∧
      a.toNat = (memRead p s).toNat * 256 + (memRead (p + 1) s).toNat ∧ (Mode.zpxi b).operandBytes = 1 ∧
      pointerAccesses (.zpxi b) s = [.read p, .read (p + 1)]) ∧
    (∃ d : Addr, resolve g (.rel b) s = .relative d ∧ d.toInt = b.toInt ∧ (Mode.rel b).operandBytes = 1 ∧
      pointerAccesses (.rel b) s = []) ∧
    (resolve g .imp s = .none ∧ Mode.imp.operandBytes = 0 ∧ pointerAccesses .imp s = [])

/-- ABSY and ABSX add Y and X to the 16-bit operand, mod 65536; IND takes the target from the two bytes at the pointer,
high byte first, the second at the next address mod 65536 with no page wrap; REGX and REGY give the registers. Rests
on: 40_step_and_operands.md R92, 40_step_and_operands.md R93, 40_step_and_operands.md R95, 40_step_and_operands.md
R100, 92_eei_decisions.md D4, D8, D9. The wrap of the sums is the spec's decision D8, the pointer's second byte its
D9, the register modes its D4. -/
def Obligations.IndexedAbsoluteAndIndirect : Prop :=
  ∀ (g : Group) (s : State) (w : Addr),
    (∃ a : Addr, resolve g (.absy w) s = .memory a ∧ a.toNat = (w.toNat + s.y.toNat) % 65536) ∧
    (∃ a : Addr, resolve g (.absx w) s = .memory a ∧ a.toNat = (w.toNat + s.x.toNat) % 65536) ∧
    (∃ t : Addr, resolve g (.ind w) s = .target t ∧
      t.toNat = (memRead w s).toNat * 256 + (memRead (w + 1) s).toNat) ∧
    resolve g .regx s = .registerX ∧ resolve g .regy s = .registerY

/-- OperandRead gives the immediate value, the memory byte, or A, X or Y; OperandWrite stores in the memory byte, A, X
or Y; both are undefined for the other variants; the handlers of STA, STX, STY, JMP and JSR make no read. Rests on:
40_step_and_operands.md R97, 40_step_and_operands.md R98, 20_memory.md R46, 92_eei_decisions.md D15, D24. That the
five handlers make no read is stated of the model's access list (log entry 8), whose order is the spec's decision
D15; the answer `none` where the rules define nothing is log entry 2; the variants `Relative` and `Target` are the
spec's decision D24. -/
def Obligations.OperandReadAndWrite : Prop :=
  (∀ (s : State) (v : Byte) (a : Addr),
    operandRead (.immediate v) s = some v ∧ operandRead (.memory a) s = some (memRead a s) ∧
    operandRead .accumulator s = some s.a ∧ operandRead .registerX s = some s.x ∧
    operandRead .registerY s = some s.y ∧ operandRead .none s = none ∧ operandRead (.relative a) s = none ∧
    operandRead (.target a) s = none) ∧
  (∀ (s : State) (v w : Byte) (a : Addr),
    operandWrite (.memory a) v s = some (memWrite a v s) ∧ operandWrite .accumulator v s = some { s with a := v } ∧
    operandWrite .registerX v s = some { s with x := v } ∧ operandWrite .registerY v s = some { s with y := v } ∧
    operandWrite (.immediate w) v s = none ∧ operandWrite .none v s = none ∧
    operandWrite (.relative a) v s = none ∧ operandWrite (.target a) v s = none) ∧
  ∀ (mn : Mnemonic) (op : Operand) (s : State), mn ∈ [.sta, .stx, .sty, .jmp, .jsr] →
    readAddrs (handlerAccesses mn op s) = []

/-- After MemWrite(a, v), a reads v, every other address reads what it read before, and nothing but memory has changed;
all of it for every address, with no access refused. Rules: R41. -/
def Obligations.MemWriteChangesOneByte : Prop :=
  ∀ (s : State) (a b : Addr) (v : Byte),
    memRead b (memWrite a v s) = (if b = a then v else memRead b s) ∧
    { memWrite a v s with mem := s.mem } = s

/-- Read16(a) is 256 times the byte at a plus the byte at (a + 1) mod 65536. Rests on: 20_memory.md R42,
92_eei_decisions.md D9. The address of the second byte is the spec's decision D9. -/
def Obligations.TwoByteReadIsHighFirst : Prop :=
  ∀ (s : State) (a b : Addr), b.toNat = (a.toNat + 1) % 65536 →
    (read16 a s).toNat = (memRead a s).toNat * 256 + (memRead b s).toNat

/-- If two memories are in canonical form and every 16-bit address reads the same in both, they are equal: memory is
exactly the 65536 bytes the spec gives, with nothing else in it. Writing any byte at any address keeps the canonical
form. Rests on: 20_memory.md R40, 20_memory.md R41, 20_memory.md R49. The canonical form is the model's (log entry
6), of which the rules say nothing. -/
def Obligations.EqualBytesMeanEqualMemory : Prop :=
  (∀ m n : Memory, m.wf = true → n.wf = true → (∀ a : Addr, m.read a.toNat = n.read a.toNat) → m = n) ∧
  ∀ (s : State) (a : Addr) (v : Byte), s.mem.wf = true → (memWrite a v s).mem.wf = true

/-- For every instruction and state: exec answers a next state, and every address that is not among the written
addresses of the instruction's access list reads as before; that list has the effective address of STA, STX, STY,
INC, DEC and the memory shifts (the operand exec resolves), the stack slots at SP of PHA, PHP (one), JSR (two), BRK
(three), and nothing for every other form. Rests on: 20_memory.md R41, 20_memory.md R46, 46_stack_interrupt.md R191,
92_eei_decisions.md D15, D21. The access list is the model's (log entry 8); that it holds the accesses of the
pseudocode is the spec's decision D15, the one write of a read-modify-write its D21. -/
def Obligations.OnlyListedAddressesAreWritten : Prop :=
  (∀ (i : Instr) (s : State), ∃ t : State, exec i s = .next t ∧
    ∀ b : Addr, b ∉ writtenAddrs (instrAccesses i s) → memRead b t = memRead b s) ∧
  ∀ (i : Instr) (s : State), writtenAddrs (instrAccesses i s) =
    if i.mnemonic ∈ [.sta, .stx, .sty, .inc, .dec, .asl, .lsr, .rol, .ror] then
      match operandOf i s with
      | .memory a => [a]
      | _ => []
    else if i.mnemonic ∈ [.pha, .php] then [stackAddr s.sp]
    else if i.mnemonic = .jsr then [stackAddr s.sp, stackAddr (s.sp + 1)]
    else if i.mnemonic = .brk then [stackAddr s.sp, stackAddr (s.sp + 1), stackAddr (s.sp + 1 + 1)]
    else []

/-- For every state the step answers a next state whose memory is the old memory after the writes of the step's access
list, in their order; so the list names every write, with its value. Rests on: 20_memory.md R46, 20_memory.md R49,
92_eei_decisions.md D15. The order of accesses is the spec's decision D15; the list is log entry 8. -/
def Obligations.AccessListHoldsTheWrites : Prop :=
  ∀ s : State, ∃ t : State, step s = .next t ∧ t.mem = replayWrites (stepAccesses s) s.mem

/-- If another memory agrees with the state's memory at every address that the step's access list reads, then in that
memory the step makes the same accesses and answers the same next state, but for memory, which is that memory with
the same writes. So no step reads a byte that the list does not name: no dummy read, not the byte after BRK, not the
target of a store. Rests on: 20_memory.md R46, 40_step_and_operands.md R84, 46_stack_interrupt.md R198,
92_eei_decisions.md D15, D25. The access list is the model's (log entry 8); its order is the spec's decision D15,
the unread byte after BRK its D25. -/
def Obligations.StepDependsOnlyOnItsReads : Prop :=
  ∀ (s : State) (m : Memory),
    (∀ a ∈ readAddrs (stepAccesses s), m.read a.toNat = s.mem.read a.toNat) →
    stepAccesses { s with mem := m } = stepAccesses s ∧
    ∃ t : State, step s = .next t ∧
      step { s with mem := m } = .next { t with mem := replayWrites (stepAccesses s) m }

/-- Bits 0 to 7 of P are C, Z, I, D, B, U, V, N; after set_status(b) with U = 1, P is b with bit 5 forced to 1; with U =
1, set_status of P itself changes nothing; and for any byte set_status changes nothing but the seven flags. Rests
on: 10_state.md R17, 10_state.md R18, 95_test_vectors.md E1, 92_eei_decisions.md D13. That bit 5 is ignored is the
spec's decision D13; that U is left as it is also where U = 0 is the model's choice (log entry 10). -/
def Obligations.StatusByteLayout : Prop :=
  (∀ s : State,
    (getStatus s).getLsbD 0 = s.flagC ∧ (getStatus s).getLsbD 1 = s.flagZ ∧ (getStatus s).getLsbD 2 = s.flagI ∧
    (getStatus s).getLsbD 3 = s.flagD ∧ (getStatus s).getLsbD 4 = s.flagB ∧ (getStatus s).getLsbD 5 = s.flagU ∧
    (getStatus s).getLsbD 6 = s.flagV ∧ (getStatus s).getLsbD 7 = s.flagN) ∧
  (∀ (b : Byte) (s : State), s.flagU = true → getStatus (setStatus b s) = b ||| 0x20) ∧
  (∀ s : State, s.flagU = true → setStatus (getStatus s) s = s) ∧
  ∀ (b : Byte) (s : State),
    { setStatus b s with
      flagC := s.flagC, flagZ := s.flagZ, flagI := s.flagI, flagD := s.flagD, flagB := s.flagB, flagV := s.flagV,
      flagN := s.flagN } = s

/-- For every instruction and state, exec answers a next state in which each of C, Z, I, D, B, U, V, N is unchanged
unless the mnemonic is in the list of R20 for that flag. Rests on: 10_state.md section 4, R20, 10_state.md R16,
92_eei_decisions.md D13, D17. The list is marked by the spec as derived from its instruction rules, whose operations
are its decision D17. That PLP and RTI ignore bit 5 is its D13; that they leave U also where U = 0 is the model's
choice (log entry 10). -/
def Obligations.FlagsChangeOnlyWhereListed : Prop :=
  ∀ (i : Instr) (s : State), ∃ t : State, exec i s = .next t ∧
    (i.mnemonic ∉ [.adc, .sbc, .cmp, .cpx, .cpy, .asl, .lsr, .rol, .ror, .clc, .sec, .plp, .rti] →
      t.flagC = s.flagC) ∧
    (i.mnemonic ∉ [.adc, .sbc, .cmp, .cpx, .cpy, .and, .ora, .eor, .lda, .ldx, .ldy, .inc, .dec, .inx, .iny, .dex,
        .dey, .asl, .lsr, .rol, .ror, .tax, .tay, .txa, .tya, .tsx, .bit, .plp, .rti] →
      t.flagZ = s.flagZ ∧ t.flagN = s.flagN) ∧
    (i.mnemonic ∉ [.sei, .cli, .brk, .plp, .rti] → t.flagI = s.flagI) ∧
    (i.mnemonic ∉ [.sed, .cld, .plp, .rti] → t.flagD = s.flagD) ∧
    (i.mnemonic ∉ [.brk, .plp, .rti] → t.flagB = s.flagB) ∧
    (i.mnemonic ∉ [.adc, .sbc, .bit, .clv, .plp, .rti] → t.flagV = s.flagV) ∧
    t.flagU = s.flagU

/-- For every instruction and state, exec answers a next state in which A, X, Y and SP are each unchanged unless R26
lists the mnemonic (for A and the shifts: in mode ACC) as a writer of it. Rests on: 10_state.md section 9, R26,
92_eei_decisions.md D17. The matrix is marked by the spec as derived from its instruction rules, whose operations
are its decision D17. -/
def Obligations.RegistersChangeOnlyWhereListed : Prop :=
  ∀ (i : Instr) (s : State), ∃ t : State, exec i s = .next t ∧
    (i.mnemonic ∉ [.adc, .sbc, .and, .ora, .eor, .lda, .txa, .tya, .pla] →
      ¬(i.mnemonic ∈ [.asl, .lsr, .rol, .ror] ∧ i.mode = .acc) → t.a = s.a) ∧
    (i.mnemonic ∉ [.ldx, .tax, .tsx, .inx, .dex] → t.x = s.x) ∧
    (i.mnemonic ∉ [.ldy, .tay, .iny, .dey] → t.y = s.y) ∧
    (i.mnemonic ∉ [.txs, .pha, .php, .pla, .plp, .jsr, .rts, .brk, .rti] → t.sp = s.sp)

/-- U is 1 at reset; after any event of the block (a reset, a load of PC, a write in memory, a step) from a state with U
= 1, U is 1; set_status leaves U as it is whatever the byte. Rests on: 10_state.md R16, 10_state.md R18,
92_eei_decisions.md D13, D16, D27. The events are the spec's decisions D16 and D27 (log entries 6 and 7), that bit 5
is ignored its D13; that set_status leaves U also where U = 0 is the model's choice (log entry 10). -/
def Obligations.UnusedFlagIsNeverCleared : Prop :=
  State.reset.flagU = true ∧
  (∀ (e : Event) (s : State), s.flagU = true → ∃ t : State, onEvent e s = .next t ∧ t.flagU = true) ∧
  ∀ (b : Byte) (s : State), (setStatus b s).flagU = s.flagU

/-- After reset A, X, Y, SP, PC, CYC are zero, U is 1, the seven other flags and HALT are 0, the fault records are zero,
P is 0x20, and every memory address reads 0x00. From any state, HALT = 1 included, the reset event gives exactly
those core values, with memory holding the image the event carries; with the empty image it gives that state. Rests
on: 10_state.md R24, 10_state.md R17, 20_memory.md R40, 70_reset_and_hazards.md R230, 92_eei_decisions.md D3, D16.
HALT and the fault records are the spec's decision D3 (log entry 1); a reset at any time and the image it leaves in
memory are its decision D16 (log entry 6). -/
def Obligations.ResetValues : Prop :=
  State.reset.a = 0x00 ∧ State.reset.x = 0x00 ∧ State.reset.y = 0x00 ∧ State.reset.sp = 0x00 ∧
  State.reset.pc = 0x0000 ∧ State.reset.cyc = 0x0000 ∧ State.reset.flagC = false ∧ State.reset.flagZ = false ∧
  State.reset.flagI = false ∧ State.reset.flagD = false ∧ State.reset.flagB = false ∧ State.reset.flagU = true ∧
  State.reset.flagV = false ∧ State.reset.flagN = false ∧ State.reset.halt = false ∧
  State.reset.faultOpcode = 0x00 ∧ State.reset.faultAddr = 0x0000 ∧ getStatus State.reset = 0x20 ∧
  (∀ a : Addr, memRead a State.reset = 0x00) ∧
  (∀ (s : State) (image : List (Addr × Byte)), onEvent (.reset image) s = .next (resetWith image) ∧
    { resetWith image with mem := [] } = State.reset ∧ (resetWith image).mem = Memory.ofImage image) ∧
  resetWith [] = State.reset

/-- At reset memory is in canonical form, U is 1 and the clear fault latch has clear records. Rests on: 10_state.md R24,
70_reset_and_hazards.md R233. The canonical form is the model's (log entry 6). -/
def Obligations.ResetMeetsTheInvariant : Prop :=
  StepInv State.reset

/-- From every state in which memory is in canonical form, U is 1, and the fault latch tells the truth (clear latch with
zero records, or PC at the recorded address of the recorded undefined opcode), every step that answers a next state
gives one in which all of that holds. Rests on: 10_state.md R16, 10_state.md R21, 60_exceptions.md R211,
93_implementation_defined.md U21, 92_eei_decisions.md D3, D22. The canonical form is the model's (log entry 6), the
fault record the spec's decision D3, the halted step its D22 (log entry 1). That every step answers a next state is
`HaltOnlyByUndefinedOpcode` and `HaltedStepChangesNothing`. -/
def Obligations.StepKeepsTheInvariant : Prop :=
  ∀ s t : State, StepInv s → step s = .next t → StepInv t

/-- After a reset with any image, a load of PC, a write in memory by the driver or a step, from a state with canonical
memory and U = 1, both hold. Rests on: 00_scope.md R9, 70_reset_and_hazards.md R230, 70_reset_and_hazards.md R232,
92_eei_decisions.md D16, D27. The events are the spec's decisions D16 and D27 (log entries 6 and 7). -/
def Obligations.EventsKeepTheCoreInvariant : Prop :=
  ∀ (e : Event) (s : State), CoreInv s → ∃ t : State, onEvent e s = .next t ∧ CoreInv t

/-- CYC is 0 at reset; every instruction adds 1 to it, mod 65536; starting from any other CYC an instruction does the
same to everything else; the observation port shows CYC. Rests on: 60_exceptions.md R218, 10_state.md R14,
10_state.md R25, 00_scope.md R9, 92_eei_decisions.md D14, D19. The width, the wrap and the tick of every completed
instruction are the spec's decision D14, the observation port is its D19. -/
def Obligations.CycCountsAndIsNeverRead : Prop :=
  State.reset.cyc = 0x0000 ∧
  (∀ (i : Instr) (s : State) (c : Addr), ∃ t : State, exec i s = .next t ∧
    t.cyc.toNat = (s.cyc.toNat + 1) % 65536 ∧ exec i { s with cyc := c } = .next { t with cyc := c + 1 }) ∧
  ∀ s : State, (observe s).cyc = s.cyc

/-- For every instruction but PHP and BRK, other values of I, D and B before it change nothing after it but I, D and B
themselves: no arithmetic is decimal, nothing is masked. Rests on: 10_state.md R20, 41_arithmetic_compare.md R116,
60_exceptions.md R213, 92_eei_decisions.md D11, D20. No decimal arithmetic is the spec's decision D11, the inert I
its D20. -/
def Obligations.InertFlagsAreNotRead : Prop :=
  ∀ (i : Instr) (s : State) (fi fd fb : Bool), i.mnemonic ∉ [.php, .brk] →
    ∃ t u : State, exec i s = .next t ∧ exec i (withInertFlags fi fd fb s) = .next u ∧
      withInertFlags t.flagI t.flagD t.flagB u = t

/-- ADC has exactly the eight rows of R110. In each, with M the byte of its operand, A becomes A + M + C mod 256, N and
Z come from it, C is the carry out of the exact sum, V is set iff A and M have one sign and the result the other; PC
passes the instruction, CYC ticks, nothing else changes. Rests on: 41_arithmetic_compare.md R110,
92_eei_decisions.md D17. Constructors: adcZpxd, adcZp, adcImm, adcAbs, adcIndy, adcZpxi, adcAbsy, adcAbsx. The
operation and the destination are the spec's decision D17. -/
def Obligations.AdcAddsWithCarry : Prop :=
  HasRows .adc [(0x61, .zpxd), (0x65, .zp), (0x69, .imm), (0x6D, .abs), (0x71, .indy), (0x75, .zpxi), (0x79, .absy), (0x7D, .absx)] ∧
  ∀ (i : Instr) (s : State), i.mnemonic = .adc →
    ∃ m : Byte, operandRead (operandOf i s) s = some m ∧
      let sum := s.a.toNat + m.toNat + s.flagC.toNat
      let r : Byte := BitVec.ofNat 8 sum
      exec i s = .next { stepped i s with
        a := r
        flagN := r.getLsbD 7
        flagZ := decide (r = 0x00)
        flagC := decide (sum > 255)
        flagV := decide (s.a.getLsbD 7 = m.getLsbD 7 ∧ r.getLsbD 7 ≠ s.a.getLsbD 7) }

/-- SBC has exactly the eight rows of R111. In each, with M the byte of its operand and borrow 1 - C, A becomes A - M -
borrow mod 256, N and Z come from it, C is 1 iff A >= M + borrow, V is set iff A and M differ in sign and the result
differs in sign from A; PC passes the instruction, CYC ticks, nothing else changes. Rests on:
41_arithmetic_compare.md R111, 92_eei_decisions.md D10, D17. Constructors: sbcZpxd, sbcZp, sbcImm, sbcAbs, sbcIndy,
sbcZpxi, sbcAbsy, sbcAbsx. The result is the spec's decision D17, `V` its D10. 512 keeps the difference above 0 and
is 0 mod 256. -/
def Obligations.SbcSubtractsWithBorrow : Prop :=
  HasRows .sbc [(0xE1, .zpxd), (0xE5, .zp), (0xE9, .imm), (0xED, .abs), (0xF1, .indy), (0xF5, .zpxi), (0xF9, .absy), (0xFD, .absx)] ∧
  ∀ (i : Instr) (s : State), i.mnemonic = .sbc →
    ∃ m : Byte, operandRead (operandOf i s) s = some m ∧
      let owed := m.toNat + (1 - s.flagC.toNat)
      let r : Byte := BitVec.ofNat 8 (s.a.toNat + 512 - owed)
      exec i s = .next { stepped i s with
        a := r
        flagN := r.getLsbD 7
        flagZ := decide (r = 0x00)
        flagC := decide (s.a.toNat ≥ owed)
        flagV := decide (s.a.getLsbD 7 ≠ m.getLsbD 7 ∧ r.getLsbD 7 ≠ s.a.getLsbD 7) }

/-- After ADC (SBC), V is 1 exactly if the exact signed sum A + M + C (difference A - M - (1 - C)) lies outside -128 to
127. Rests on: 41_arithmetic_compare.md R110, 41_arithmetic_compare.md R111, 41_arithmetic_compare.md R116,
92_eei_decisions.md D10. -/
def Obligations.OverflowMeansSignedOverflow : Prop :=
  (∀ (i : Instr) (s : State), i.mnemonic = .adc →
    ∃ (m : Byte) (t : State), operandRead (operandOf i s) s = some m ∧ exec i s = .next t ∧
      (t.flagV = true ↔ s.a.toInt + m.toInt + s.flagC.toNat < -128 ∨ 127 < s.a.toInt + m.toInt + s.flagC.toNat)) ∧
  ∀ (i : Instr) (s : State), i.mnemonic = .sbc →
    ∃ (m : Byte) (t : State), operandRead (operandOf i s) s = some m ∧ exec i s = .next t ∧
      (t.flagV = true ↔ s.a.toInt - m.toInt - (1 - s.flagC.toNat : Int) < -128 ∨
        127 < s.a.toInt - m.toInt - (1 - s.flagC.toNat : Int))

/-- In every state SBC #v and ADC #(complement of v) give the same next state, flags included. Rests on:
41_arithmetic_compare.md R111, 92_eei_decisions.md D10. The spec's decision D10. -/
def Obligations.SubtractIsAddOfComplement : Prop :=
  ∀ (v : Byte) (s : State), exec (.sbcImm v) s = exec (.adcImm (~~~v)) s

/-- CMP, CPX, CPY have exactly the rows of R113 to R115. In each, with reg the value of A, X, Y and M the byte of the
operand, N and Z come from reg - M mod 256, C is 1 iff reg >= M unsigned; PC passes the instruction, CYC ticks,
nothing else changes, V and the registers included. Rests on: 41_arithmetic_compare.md R112,
41_arithmetic_compare.md R113, 41_arithmetic_compare.md R114, 41_arithmetic_compare.md R115, 92_eei_decisions.md
D17. Constructors: cmpZpxd, cmpZp, cmpImm, cmpAbs, cmpIndy, cmpZpxi, cmpAbsy, cmpAbsx, cpxImm, cpxZp, cpxAbs,
cpyImm, cpyZp, cpyAbs. Which register each compares is the spec's decision D17. -/
def Obligations.CompareSetsFlagsOnly : Prop :=
  HasRows .cmp [(0xC1, .zpxd), (0xC5, .zp), (0xC9, .imm), (0xCD, .abs), (0xD1, .indy), (0xD5, .zpxi), (0xD9, .absy), (0xDD, .absx)] ∧
  HasRows .cpx [(0xE0, .imm), (0xE4, .zp), (0xEC, .abs)] ∧
  HasRows .cpy [(0xC0, .imm), (0xC4, .zp), (0xCC, .abs)] ∧
  ∀ (i : Instr) (s : State) (reg : Byte),
    (i.mnemonic = .cmp ∧ reg = s.a ∨ i.mnemonic = .cpx ∧ reg = s.x ∨ i.mnemonic = .cpy ∧ reg = s.y) →
    ∃ m : Byte, operandRead (operandOf i s) s = some m ∧
      exec i s = .next { stepped i s with
        flagN := (reg - m).getLsbD 7
        flagZ := decide (reg = m)
        flagC := decide (reg.toNat ≥ m.toNat) }

/-- AND, ORA, EOR have exactly the rows of R120 to R122. In each, with M the byte of the operand, A becomes A and M, A
or M, A xor M; N and Z come from it; PC passes the instruction, CYC ticks, nothing else changes. Rests on:
42_logic_load_store_incdec.md R120, 42_logic_load_store_incdec.md R121, 42_logic_load_store_incdec.md R122,
92_eei_decisions.md D17. Constructors: andZpxd, andZp, andImm, andAbs, andIndy, andZpxi, andAbsy, andAbsx, oraZpxd,
oraZp, oraImm, oraAbs, oraIndy, oraZpxi, oraAbsy, oraAbsx, eorZpxd, eorZp, eorImm, eorAbs, eorIndy, eorZpxi,
eorAbsy, eorAbsx. The operations are the spec's decision D17. -/
def Obligations.LogicIntoA : Prop :=
  HasRows .and [(0x21, .zpxd), (0x25, .zp), (0x29, .imm), (0x2D, .abs), (0x31, .indy), (0x35, .zpxi), (0x39, .absy), (0x3D, .absx)] ∧
  HasRows .ora [(0x01, .zpxd), (0x05, .zp), (0x09, .imm), (0x0D, .abs), (0x11, .indy), (0x15, .zpxi), (0x19, .absy), (0x1D, .absx)] ∧
  HasRows .eor [(0x41, .zpxd), (0x45, .zp), (0x49, .imm), (0x4D, .abs), (0x51, .indy), (0x55, .zpxi), (0x59, .absy), (0x5D, .absx)] ∧
  ∀ (i : Instr) (s : State), i.mnemonic ∈ [.and, .ora, .eor] →
    ∃ m r : Byte, operandRead (operandOf i s) s = some m ∧
      (i.mnemonic = .and → r = s.a &&& m) ∧ (i.mnemonic = .ora → r = s.a ||| m) ∧ (i.mnemonic = .eor → r = s.a ^^^ m) ∧
      exec i s = .next { stepped i s with a := r, flagN := r.getLsbD 7, flagZ := decide (r = 0x00) }

/-- LDA, LDX, LDY have exactly the rows of R123 to R125. In each, with M the byte of the operand resolved with the
registers before the instruction (LDX indexes by the old X), A, X or Y becomes M, N and Z come from M; PC passes the
instruction, CYC ticks, nothing else changes. Rests on: 42_logic_load_store_incdec.md R123,
42_logic_load_store_incdec.md R124, 42_logic_load_store_incdec.md R125, 92_eei_decisions.md D17, D23. Constructors:
ldaZpxd, ldaZp, ldaImm, ldaAbs, ldaIndy, ldaZpxi, ldaAbsy, ldaAbsx, ldxImm, ldxZp, ldxAbs, ldxZpxi, ldxAbsx, ldyImm,
ldyZp, ldyAbs, ldyZpxi, ldyAbsx. The destinations are the spec's decision D17, the index register its D23. -/
def Obligations.LoadsFillTheirRegister : Prop :=
  HasRows .lda [(0xA1, .zpxd), (0xA5, .zp), (0xA9, .imm), (0xAD, .abs), (0xB1, .indy), (0xB5, .zpxi), (0xB9, .absy), (0xBD, .absx)] ∧
  HasRows .ldx [(0xA2, .imm), (0xA6, .zp), (0xAE, .abs), (0xB6, .zpxi), (0xBE, .absx)] ∧
  HasRows .ldy [(0xA0, .imm), (0xA4, .zp), (0xAC, .abs), (0xB4, .zpxi), (0xBC, .absx)] ∧
  ∀ (i : Instr) (s : State), i.mnemonic ∈ [.lda, .ldx, .ldy] →
    ∃ m : Byte, operandRead (operandOf i s) s = some m ∧
      exec i s = .next { stepped i s with
        a := if i.mnemonic = .lda then m else s.a
        x := if i.mnemonic = .ldx then m else s.x
        y := if i.mnemonic = .ldy then m else s.y
        flagN := m.getLsbD 7
        flagZ := decide (m = 0x00) }

/-- INC and DEC have exactly the rows of R126 and R127. In each the operand is a memory byte; it becomes one more, one
less mod 256; N and Z come from the new byte; PC passes the instruction, CYC ticks, nothing else changes, C and V
included. Rests on: 42_logic_load_store_incdec.md R126, 42_logic_load_store_incdec.md R127, 92_eei_decisions.md D17.
Constructors: incZp, incAbs, incZpxi, incAbsx, decZp, decAbs, decZpxi, decAbsx. The operations are the spec's
decision D17. -/
def Obligations.IncrementAndDecrementMemory : Prop :=
  HasRows .inc [(0xE6, .zp), (0xEE, .abs), (0xF6, .zpxi), (0xFE, .absx)] ∧
  HasRows .dec [(0xC6, .zp), (0xCE, .abs), (0xD6, .zpxi), (0xDE, .absx)] ∧
  ∀ (i : Instr) (s : State), i.mnemonic ∈ [.inc, .dec] →
    ∃ (a : Addr) (r : Byte), operandOf i s = .memory a ∧
      r = (if i.mnemonic = .inc then memRead a s + 1 else memRead a s - 1) ∧
      exec i s = .next { stepped i s with
        mem := s.mem.write a.toNat r, flagN := r.getLsbD 7, flagZ := decide (r = 0x00) }

/-- INX, INY, DEX, DEY are E8, C8, CA, 88. X or Y becomes one more or one less mod 256; N and Z come from the new value;
PC passes one byte, CYC ticks, nothing else changes, C and V included. Rests on: 42_logic_load_store_incdec.md R131,
42_logic_load_store_incdec.md R132, 42_logic_load_store_incdec.md R133, 42_logic_load_store_incdec.md R134,
92_eei_decisions.md D4. Constructors: inx, iny, dex, dey. The four instructions are the spec's decision D4. -/
def Obligations.IncrementAndDecrementRegister : Prop :=
  HasRows .inx [(0xE8, .regx)] ∧
  HasRows .iny [(0xC8, .regy)] ∧
  HasRows .dex [(0xCA, .regx)] ∧
  HasRows .dey [(0x88, .regy)] ∧
  ∀ s : State,
    exec .inx s = .next { stepped .inx s with
      x := s.x + 1, flagN := (s.x + 1).getLsbD 7, flagZ := decide (s.x + 1 = 0x00) } ∧
    exec .iny s = .next { stepped .iny s with
      y := s.y + 1, flagN := (s.y + 1).getLsbD 7, flagZ := decide (s.y + 1 = 0x00) } ∧
    exec .dex s = .next { stepped .dex s with
      x := s.x - 1, flagN := (s.x - 1).getLsbD 7, flagZ := decide (s.x - 1 = 0x00) } ∧
    exec .dey s = .next { stepped .dey s with
      y := s.y - 1, flagN := (s.y - 1).getLsbD 7, flagZ := decide (s.y - 1 = 0x00) }

/-- STA, STX, STY have exactly the rows of R128 to R130. In each the operand is a memory byte, which becomes A, X, Y; PC
passes the instruction, CYC ticks, nothing else changes, no flag included; after it that address reads the register
and every other address reads as before. Rests on: 42_logic_load_store_incdec.md R128, 42_logic_load_store_incdec.md
R129, 42_logic_load_store_incdec.md R130, 92_eei_decisions.md D17, D23. Constructors: staZpxd, staZp, staAbs,
staIndy, staZpxi, staAbsy, staAbsx, stxZp, stxAbs, stxZpxi, styZp, styAbs, styZpxi. The operations are the spec's
decision D17, the index register its D23. -/
def Obligations.StoresWriteTheirOperand : Prop :=
  HasRows .sta [(0x81, .zpxd), (0x85, .zp), (0x8D, .abs), (0x91, .indy), (0x95, .zpxi), (0x99, .absy), (0x9D, .absx)] ∧
  HasRows .stx [(0x86, .zp), (0x8E, .abs), (0x96, .zpxi)] ∧
  HasRows .sty [(0x84, .zp), (0x8C, .abs), (0x94, .zpxi)] ∧
  ∀ (i : Instr) (s : State) (v : Byte),
    (i.mnemonic = .sta ∧ v = s.a ∨ i.mnemonic = .stx ∧ v = s.x ∨ i.mnemonic = .sty ∧ v = s.y) →
    ∃ (a : Addr) (t : State), operandOf i s = .memory a ∧ exec i s = .next t ∧
      t = { stepped i s with mem := s.mem.write a.toNat v } ∧
      ∀ b : Addr, memRead b t = if b = a then v else memRead b s

/-- ASL and LSR have exactly the rows of R140 and R141. The operand, A or a memory byte M, becomes 2M mod 256, M div 2;
C is the bit shifted out (bit 7, bit 0); N and Z come from the result; PC passes the instruction, CYC ticks, nothing
else changes. Rests on: 43_shift_rotate_bit.md R140, 43_shift_rotate_bit.md R141, 92_eei_decisions.md D17.
Constructors: aslZp, aslAcc, aslAbs, aslZpxi, aslAbsx, lsrZp, lsrAcc, lsrAbs, lsrZpxi, lsrAbsx. That the shift is by
one bit and goes back to the operand is the spec's decision D17. -/
def Obligations.ShiftsMoveOneBit : Prop :=
  HasRows .asl [(0x06, .zp), (0x0A, .acc), (0x0E, .abs), (0x16, .zpxi), (0x1E, .absx)] ∧
  HasRows .lsr [(0x46, .zp), (0x4A, .acc), (0x4E, .abs), (0x56, .zpxi), (0x5E, .absx)] ∧
  ∀ (i : Instr) (s : State), i.mnemonic ∈ [.asl, .lsr] →
    ∃ (m r : Byte) (t : State), operandRead (operandOf i s) s = some m ∧
      (i.mnemonic = .asl → r.toNat = m.toNat * 2 % 256) ∧ (i.mnemonic = .lsr → r.toNat = m.toNat / 2) ∧
      t = { stepped i s with flagN := r.getLsbD 7, flagZ := decide (r = 0x00), flagC := m.getLsbD (if i.mnemonic = .asl then 7 else 0) } ∧
      (operandOf i s = .accumulator ∧ exec i s = .next { t with a := r } ∨
        ∃ a : Addr, operandOf i s = .memory a ∧ exec i s = .next { t with mem := s.mem.write a.toNat r })

/-- ROL and ROR have exactly the rows of R142 and R143. The operand, A or a memory byte M, becomes (2M mod 256) + old C,
(M div 2) + 128 times old C; C is the bit shifted out (bit 7, bit 0); N and Z come from the result; PC passes the
instruction, CYC ticks, nothing else changes. Rests on: 43_shift_rotate_bit.md R142, 43_shift_rotate_bit.md R143,
92_eei_decisions.md D17. Constructors: rolZp, rolAcc, rolAbs, rolZpxi, rolAbsx, rorZp, rorAcc, rorAbs, rorZpxi,
rorAbsx. That the rotate is by one bit and goes back to the operand is the spec's decision D17. -/
def Obligations.RotatesGoThroughCarry : Prop :=
  HasRows .rol [(0x26, .zp), (0x2A, .acc), (0x2E, .abs), (0x36, .zpxi), (0x3E, .absx)] ∧
  HasRows .ror [(0x66, .zp), (0x6A, .acc), (0x6E, .abs), (0x76, .zpxi), (0x7E, .absx)] ∧
  ∀ (i : Instr) (s : State), i.mnemonic ∈ [.rol, .ror] →
    ∃ (m r : Byte) (t : State), operandRead (operandOf i s) s = some m ∧
      (i.mnemonic = .rol → r.toNat = m.toNat * 2 % 256 + s.flagC.toNat) ∧
      (i.mnemonic = .ror → r.toNat = m.toNat / 2 + s.flagC.toNat * 128) ∧
      t = { stepped i s with flagN := r.getLsbD 7, flagZ := decide (r = 0x00), flagC := m.getLsbD (if i.mnemonic = .rol then 7 else 0) } ∧
      (operandOf i s = .accumulator ∧ exec i s = .next { t with a := r } ∨
        ∃ a : Addr, operandOf i s = .memory a ∧ exec i s = .next { t with mem := s.mem.write a.toNat r })

/-- In every mode whose address is not itself read from memory (all but ZPXI): ASL and then ROR of the same operand
leave A, X, Y, SP and every memory byte as they were, with C = 0. Rests on: 43_shift_rotate_bit.md R140,
43_shift_rotate_bit.md R143, 95_test_vectors.md E8, 92_eei_decisions.md D17. That both shift by one bit and write
back to the operand is the spec's decision D17. -/
def Obligations.AslThenRorRestores : Prop :=
  ∀ (i j : Instr) (s : State), i.mnemonic = .asl → j.mnemonic = .ror → i.mode = j.mode → i.mode.id ≠ .zpxi →
    ∃ t u : State, exec i s = .next t ∧ exec j t = .next u ∧ u.a = s.a ∧ u.x = s.x ∧ u.y = s.y ∧ u.sp = s.sp ∧
      u.flagC = false ∧ ∀ b : Addr, memRead b u = memRead b s

/-- BIT is 24 (ZP) and 2C (ABS). With M the byte of the operand, N becomes M[7], V becomes M[6], Z is 1 iff M and A have
no common bit; PC passes the instruction, CYC ticks, nothing else changes; the flags take no part; the handler reads
that one byte once and writes none. Rests on: 43_shift_rotate_bit.md R144, 20_memory.md R46, 92_eei_decisions.md D1,
D17. Constructors: bitZp, bitAbs. That BIT writes nothing but flags is the spec's decision D17, the bytes are its D1
(log entry 9); the access list is log entry 8. -/
def Obligations.BitTestsTheOperand : Prop :=
  HasRows .bit [(0x24, .zp), (0x2C, .abs)] ∧
  ∀ (i : Instr) (s : State), i.mnemonic = .bit →
    ∃ (a : Addr) (m : Byte), operandOf i s = .memory a ∧ m = memRead a s ∧
      handlerAccesses .bit (operandOf i s) s = [.read a] ∧
      exec i s = .next { stepped i s with
        flagN := m.getLsbD 7, flagV := m.getLsbD 6, flagZ := decide (m &&& s.a = 0x00) }

/-- Each of the six (AA, A8, 8A, 98, BA, 9A) copies its source to its destination; N and Z come from the moved value but
for TXS, which writes no flag; PC passes one byte, CYC ticks, nothing else changes. Rests on:
44_transfer_flag_nop.md R150, 44_transfer_flag_nop.md R151, 44_transfer_flag_nop.md R152, 44_transfer_flag_nop.md
R153, 44_transfer_flag_nop.md R154, 44_transfer_flag_nop.md R155, 92_eei_decisions.md D17. Constructors: tax, tay,
txa, tya, tsx, txs. The directions are the spec's decision D17. -/
def Obligations.TransfersMoveARegister : Prop :=
  HasRows .tax [(0xAA, .imp)] ∧
  HasRows .tay [(0xA8, .imp)] ∧
  HasRows .txa [(0x8A, .imp)] ∧
  HasRows .tya [(0x98, .imp)] ∧
  HasRows .tsx [(0xBA, .imp)] ∧
  HasRows .txs [(0x9A, .imp)] ∧
  ∀ s : State,
    exec .tax s = .next { stepped .tax s with x := s.a, flagN := s.a.getLsbD 7, flagZ := decide (s.a = 0x00) } ∧
    exec .tay s = .next { stepped .tay s with y := s.a, flagN := s.a.getLsbD 7, flagZ := decide (s.a = 0x00) } ∧
    exec .txa s = .next { stepped .txa s with a := s.x, flagN := s.x.getLsbD 7, flagZ := decide (s.x = 0x00) } ∧
    exec .tya s = .next { stepped .tya s with a := s.y, flagN := s.y.getLsbD 7, flagZ := decide (s.y = 0x00) } ∧
    exec .tsx s = .next { stepped .tsx s with x := s.sp, flagN := s.sp.getLsbD 7, flagZ := decide (s.sp = 0x00) } ∧
    exec .txs s = .next { stepped .txs s with sp := s.x }

/-- Each flag instruction (18, D8, 58, B8, 38, F8, 78) writes exactly the flag and value it names, NOP (EA) nothing; PC
passes one byte, CYC ticks, nothing else changes. Rests on: 44_transfer_flag_nop.md R156, 44_transfer_flag_nop.md
R157, 44_transfer_flag_nop.md R158, 44_transfer_flag_nop.md R159, 44_transfer_flag_nop.md R160,
44_transfer_flag_nop.md R161, 44_transfer_flag_nop.md R162, 44_transfer_flag_nop.md R163, 92_eei_decisions.md D5,
D17. Constructors: clc, cld, cli, clv, sec, sed, sei, nop. Flags and values named are the spec's decision D17, `NOP`
its D5. -/
def Obligations.FlagInstructionsAndNop : Prop :=
  HasRows .clc [(0x18, .imp)] ∧
  HasRows .cld [(0xD8, .imp)] ∧
  HasRows .cli [(0x58, .imp)] ∧
  HasRows .clv [(0xB8, .imp)] ∧
  HasRows .sec [(0x38, .imp)] ∧
  HasRows .sed [(0xF8, .imp)] ∧
  HasRows .sei [(0x78, .imp)] ∧
  HasRows .nop [(0xEA, .imp)] ∧
  ∀ s : State,
    exec .clc s = .next { stepped .clc s with flagC := false } ∧
    exec .cld s = .next { stepped .cld s with flagD := false } ∧
    exec .cli s = .next { stepped .cli s with flagI := false } ∧
    exec .clv s = .next { stepped .clv s with flagV := false } ∧
    exec .sec s = .next { stepped .sec s with flagC := true } ∧
    exec .sed s = .next { stepped .sed s with flagD := true } ∧
    exec .sei s = .next { stepped .sei s with flagI := true } ∧
    exec .nop s = .next (stepped .nop s)

/-- Each branch (90, B0, F0, 30, D0, 10, 50, 70) at a0 with displacement byte d ends with PC = a0 + 2 + sext(d) mod
65536 if its condition holds and a0 + 2 if not; CYC ticks, nothing else changes. Rests on: 45_control_transfer.md
R170, 45_control_transfer.md R171 to R178, 92_eei_decisions.md D17. Constructors: bcc, bcs, beq, bmi, bne, bpl, bvc,
bvs. Which condition each names is the spec's decision D17. -/
def Obligations.BranchesAddTheDisplacement : Prop :=
  HasRows .bcc [(0x90, .rel)] ∧
  HasRows .bcs [(0xB0, .rel)] ∧
  HasRows .beq [(0xF0, .rel)] ∧
  HasRows .bmi [(0x30, .rel)] ∧
  HasRows .bne [(0xD0, .rel)] ∧
  HasRows .bpl [(0x10, .rel)] ∧
  HasRows .bvc [(0x50, .rel)] ∧
  HasRows .bvs [(0x70, .rel)] ∧
  ∀ (s : State) (d : Byte) (target : Addr), (target.toNat : Int) = ((s.pc.toNat : Int) + 2 + d.toInt) % 65536 →
    exec (.bcc d) s = .next { s with pc := if s.flagC = false then target else s.pc + 2, cyc := s.cyc + 1 } ∧
    exec (.bcs d) s = .next { s with pc := if s.flagC = true then target else s.pc + 2, cyc := s.cyc + 1 } ∧
    exec (.beq d) s = .next { s with pc := if s.flagZ = true then target else s.pc + 2, cyc := s.cyc + 1 } ∧
    exec (.bmi d) s = .next { s with pc := if s.flagN = true then target else s.pc + 2, cyc := s.cyc + 1 } ∧
    exec (.bne d) s = .next { s with pc := if s.flagZ = false then target else s.pc + 2, cyc := s.cyc + 1 } ∧
    exec (.bpl d) s = .next { s with pc := if s.flagN = false then target else s.pc + 2, cyc := s.cyc + 1 } ∧
    exec (.bvc d) s = .next { s with pc := if s.flagV = false then target else s.pc + 2, cyc := s.cyc + 1 } ∧
    exec (.bvs d) s = .next { s with pc := if s.flagV = true then target else s.pc + 2, cyc := s.cyc + 1 }

/-- JMP is 4C (ABS) and 6C (IND). The absolute form ends with PC at its operand; the indirect form at the address that
the byte at the pointer (high) and the byte at the pointer plus 1 mod 65536 (low) spell; CYC ticks, nothing else
changes; the absolute form reads no memory but its own bytes. Rests on: 45_control_transfer.md R179,
40_step_and_operands.md R89, 40_step_and_operands.md R95, 10_state.md R14, 20_memory.md R46, 92_eei_decisions.md D1,
D9, D15, D24. Constructors: jmpAbs, jmpInd. That the second pointer byte follows with no page wrap is the spec's
decision D9, the target forms are its D24, the bytes its D1 (log entry 9). The reads of the absolute form are stated
of the model's access list (log entry 8), whose order is the spec's decision D15 (R46). -/
def Obligations.JmpGoesToItsTarget : Prop :=
  HasRows .jmp [(0x4C, .abs), (0x6C, .ind)] ∧
  ∀ (s : State) (w : Addr),
    exec (.jmpAbs w) s = .next { s with pc := w, cyc := s.cyc + 1 } ∧
    readAddrs (instrAccesses (.jmpAbs w) s) = [s.pc, s.pc + 1, s.pc + 1 + 1] ∧
    ∃ t : Addr, t.toNat = (memRead w s).toNat * 256 + (memRead (w + 1) s).toNat ∧
      exec (.jmpInd w) s = .next { s with pc := t, cyc := s.cyc + 1 }

/-- JSR (20) at a0 pushes a0 + 2 mod 65536, high byte at 0x0100 + SP, low byte at 0x0100 + (SP + 1 mod 256), SP ends 2
higher mod 256, PC is the operand, CYC ticks; every other byte and nothing else changes. Rests on:
45_control_transfer.md R180, 46_stack_interrupt.md R191, 10_state.md R14, 92_eei_decisions.md D1, D7, D24.
Constructor: jsr. The target form is the spec's decision D24, the wrap of a0 + 2 its D7, the byte its D1 (log entry
9). -/
def Obligations.JsrPushesItsLastByte : Prop :=
  HasRows .jsr [(0x20, .abs)] ∧
  ∀ (s : State) (w : Addr) (hi lo : Byte), hi.toNat * 256 + lo.toNat = (s.pc.toNat + 2) % 65536 →
    ∃ t : State, exec (.jsr w) s = .next t ∧
      { t with mem := s.mem } = { s with sp := s.sp + 2, pc := w, cyc := s.cyc + 1 } ∧
      ∀ b : Addr, memRead b t =
        if b = 0x0100 + s.sp.setWidth 16 then hi
        else if b = 0x0100 + (s.sp + 1).setWidth 16 then lo
        else memRead b s

/-- RTS (60) reads the low byte at 0x0100 + (SP - 1 mod 256) and the high byte at 0x0100 + (SP - 2 mod 256), PC is that
address plus 1 mod 65536, SP ends 2 lower mod 256, CYC ticks, nothing else changes. Rests on: 45_control_transfer.md
R181, 46_stack_interrupt.md R192, 10_state.md R14, 92_eei_decisions.md D1, D7, D12. Constructor: rts. That a pull
decrements SP and then reads is the spec's decision D12, the wrap of the sum its D7, the byte its D1 (log entry 9). -/
def Obligations.RtsPullsAndAddsOne : Prop :=
  HasRows .rts [(0x60, .imp)] ∧
  ∀ (s : State) (t : Addr),
    t.toNat = ((memRead (0x0100 + (s.sp - 2).setWidth 16) s).toNat * 256 +
      (memRead (0x0100 + (s.sp - 1).setWidth 16) s).toNat + 1) % 65536 →
    exec .rts s = .next { s with sp := s.sp - 2, pc := t, cyc := s.cyc + 1 }

/-- From every state, JSR to any target and then RTS at the state JSR left give the state before the JSR with PC three
higher (mod 65536), two more ticks, and memory as the JSR left it. Rests on: 45_control_transfer.md R180,
45_control_transfer.md R181, 95_test_vectors.md E5, 92_eei_decisions.md D7, D12, D24. The wrap of PC is the spec's
decision D7, the order of the pull its D12, the target form its D24. -/
def Obligations.RtsReturnsAfterJsr : Prop :=
  ∀ (s : State) (w : Addr), ∃ t : State, exec (.jsr w) s = .next t ∧
    exec .rts t = .next { s with pc := s.pc + 3, cyc := s.cyc + 2, mem := t.mem }

/-- Push(v) stores v at 0x0100 + SP and raises SP by 1 mod 256; a pull after it returns v and restores SP; a two-byte
push and pull likewise; every location the stack uses lies in 0x0100 to 0x01FF, so at SP = 0xFF it wraps to 0x0100.
Rests on: 46_stack_interrupt.md R191, 46_stack_interrupt.md R192, 46_stack_interrupt.md R193, 46_stack_interrupt.md
R200, 92_eei_decisions.md D12. The order of the pull is the spec's decision D12. -/
def Obligations.PushAndPullAreInverse : Prop :=
  (∀ (s : State) (v : Byte), memRead (0x0100 + s.sp.setWidth 16) (push v s) = v ∧ (push v s).sp = s.sp + 1 ∧
    pullByte (push v s) = v ∧ (pulled (push v s)).sp = s.sp) ∧
  (∀ (s : State) (w : Addr), pullWord (push16 w s) = w ∧ (pulled16 (push16 w s)).sp = s.sp) ∧
  ∀ sp : Byte, 0x0100 ≤ (stackAddr sp).toNat ∧ (stackAddr sp).toNat ≤ 0x01FF

/-- PHA (48) stores A, PHP (08) the status byte with the live value of every flag, at 0x0100 + SP; SP ends 1 higher mod
256, PC passes one byte, CYC ticks, nothing else changes; every other address reads as before. Rests on:
46_stack_interrupt.md R194, 46_stack_interrupt.md R195, 46_stack_interrupt.md R191, 92_eei_decisions.md D17.
Constructors: pha, php. Which register each pushes is the spec's decision D17. -/
def Obligations.PhaAndPhpPushOneByte : Prop :=
  HasRows .pha [(0x48, .imp)] ∧
  HasRows .php [(0x08, .imp)] ∧
  ∀ s : State, ∃ t u : State, exec .pha s = .next t ∧ exec .php s = .next u ∧
    { t with mem := s.mem } = { stepped .pha s with sp := s.sp + 1 } ∧
    { u with mem := s.mem } = { stepped .php s with sp := s.sp + 1 } ∧
    ∀ b : Addr, memRead b t = (if b = 0x0100 + s.sp.setWidth 16 then s.a else memRead b s) ∧
      memRead b u = (if b = 0x0100 + s.sp.setWidth 16 then getStatus s else memRead b s)

/-- With b the byte at 0x0100 + (SP - 1 mod 256): PLA (68) loads A from it and writes no flag, PLP (28) loads C, Z, I,
D, B, V, N from its bits 0, 1, 2, 3, 4, 6, 7 and leaves U; SP ends 1 lower mod 256, PC passes one byte, CYC ticks,
nothing else changes. Rests on: 46_stack_interrupt.md R196, 46_stack_interrupt.md R197, 46_stack_interrupt.md R192,
10_state.md R16, 10_state.md R18, 92_eei_decisions.md D12, D13, D17. Constructors: pla, plp. Which register each
pulls is the spec's decision D17, the order of the pull its D12, the ignored bit 5 its D13; that PLP leaves U also
where U = 0 is the model's choice (log entry 10). -/
def Obligations.PlaAndPlpPullOneByte : Prop :=
  HasRows .pla [(0x68, .imp)] ∧
  HasRows .plp [(0x28, .imp)] ∧
  ∀ (s : State) (b : Byte), b = memRead (0x0100 + (s.sp - 1).setWidth 16) s →
    exec .pla s = .next { stepped .pla s with a := b, sp := s.sp - 1 } ∧
    exec .plp s = .next { stepped .plp s with
      sp := s.sp - 1, flagC := b.getLsbD 0, flagZ := b.getLsbD 1, flagI := b.getLsbD 2, flagD := b.getLsbD 3,
      flagB := b.getLsbD 4, flagV := b.getLsbD 6, flagN := b.getLsbD 7 }

/-- BRK (00) at a0 stores the high byte of a0 + 2, its low byte, and the status byte with B = 1 and the I of before, at
the three stack locations from 0x0100 + SP up (each inside page one); B and I become 1, SP is 3 higher mod 256, PC
is the address in 0xFFFE (high) and 0xFFFF (low), CYC ticks; A, X, Y, the other flags, every other byte and nothing
else changes. Rests on: 60_exceptions.md R215, 46_stack_interrupt.md R198, 10_state.md R14, 30_encoding.md R66,
92_eei_decisions.md D1, D7. Constructor: brk. The byte is the spec's decision D1, the wrap of a0 + 2 its D7 (log
entry 9). That a byte after the opcode is not read is `StepDependsOnlyOnItsReads`. -/
def Obligations.BrkTakesTheTrap : Prop :=
  HasRows .brk [(0x00, .imp)] ∧
  ∀ (s : State) (hi lo : Byte) (vector : Addr), hi.toNat * 256 + lo.toNat = (s.pc.toNat + 2) % 65536 →
    vector.toNat = (memRead 0xFFFE s).toNat * 256 + (memRead 0xFFFF s).toNat →
    ∃ t : State, exec .brk s = .next t ∧
      { t with mem := s.mem } =
        { s with sp := s.sp + 3, pc := vector, cyc := s.cyc + 1, flagB := true, flagI := true } ∧
      ∀ b : Addr, memRead b t =
        if b = 0x0100 + s.sp.setWidth 16 then hi
        else if b = 0x0100 + (s.sp + 1).setWidth 16 then lo
        else if b = 0x0100 + (s.sp + 2).setWidth 16 then getStatus { s with flagB := true }
        else memRead b s

/-- RTI (40): seven flags from the byte at 0x0100 + (SP - 1 mod 256), U left, PC from the bytes at SP - 2 (low) and SP -
3 (high) with no adjustment, SP 3 lower mod 256, CYC ticks, nothing else changes. BRK at a0 and then RTI give the
state before with PC = a0 + 2, B = 1, two more ticks and memory as BRK left it. Rests on: 46_stack_interrupt.md
R199, 46_stack_interrupt.md R192, 10_state.md R18, 10_state.md R14, 92_eei_decisions.md D1, D12, D13. Constructor:
rti. The order of a pull is the spec's decision D12, the ignored bit 5 its D13, the byte its D1 (log entry 9); that
U is left as it is also where U = 0 is the model's choice (log entry 10). -/
def Obligations.RtiReturnsFromTheTrap : Prop :=
  HasRows .rti [(0x40, .imp)] ∧
  (∀ (s : State) (b : Byte) (ret : Addr), b = memRead (0x0100 + (s.sp - 1).setWidth 16) s →
    ret.toNat = (memRead (0x0100 + (s.sp - 3).setWidth 16) s).toNat * 256 +
      (memRead (0x0100 + (s.sp - 2).setWidth 16) s).toNat →
    exec .rti s = .next { s with
      sp := s.sp - 3, pc := ret, cyc := s.cyc + 1, flagC := b.getLsbD 0, flagZ := b.getLsbD 1, flagI := b.getLsbD 2,
      flagD := b.getLsbD 3, flagB := b.getLsbD 4, flagV := b.getLsbD 6, flagN := b.getLsbD 7 }) ∧
  ∀ s : State, ∃ t : State, exec .brk s = .next t ∧
    exec .rti t = .next { s with pc := s.pc + 2, cyc := s.cyc + 2, flagB := true, mem := t.mem }

/-- From any state, a reset event with the launch's image and then a load of PC with its entry point give the launch
state: PC is the entry point, every other core register and flag has its reset value (U = 1, HALT = 0), and each
address reads the last byte the image gives it, or 0x00 where the image gives none. Rests on:
70_reset_and_hazards.md R230, 70_reset_and_hazards.md R232, 70_reset_and_hazards.md R233, 10_state.md R25,
92_eei_decisions.md D16. Reset as an event and the image it leaves are the spec's decision D16 (log entry 6). -/
def Obligations.LaunchStateOfARun : Prop :=
  ∀ l : Launch,
    (∀ s : State, ∃ t : State, onEvent (.reset l.image) s = .next t ∧ onEvent (.loadPc l.entry) t = .next (launchState l)) ∧
    { launchState l with pc := 0x0000, mem := [] } = State.reset ∧ (launchState l).pc = l.entry ∧
    ∀ a : Addr, memRead a (launchState l) = ((l.image.reverse.find? fun c => c.1 == a).map Prod.snd).getD 0x00

/-- With s any state: a run that is at the launch's address and not halted has ended there; a run that is not goes on
with the next step; a result has PC at that address and HALT = 0 and stays the result with any larger bound; a
halted run, and a run that meets an undefined opcode elsewhere than at that address, has no result. Rests on:
70_reset_and_hazards.md R236, 60_exceptions.md R211, 92_eei_decisions.md D28. The end of a run is the model's own
convention (log entry 11), which the spec's decision D28 asks for; R236 says that a fault is no result. -/
def Obligations.RunEndsAtItsAddress : Prop :=
  ∀ (l : Launch) (n : Nat) (s : State),
    (s.halt = false → s.pc = l.finish → runFrom l n s = some s) ∧
    (s.halt = false → s.pc ≠ l.finish → ∃ t : State, step s = .next t ∧ runFrom l (n + 1) s = runFrom l n t) ∧
    (∀ t : State, runFrom l n s = some t → t.pc = l.finish ∧ t.halt = false ∧ ∀ m : Nat, n ≤ m → runFrom l m s = some t) ∧
    (s.halt = true → runFrom l n s = none) ∧
    (s.halt = false → s.pc ≠ l.finish → memRead s.pc s ∈ undefinedBytes → runFrom l n s = none)
end

