-- ==== Sys2Proof/Laws/State.lean ====
section
/-! SUPPORT. One lemma per field for each named update of the state, so that no proof unfolds an update. -/

namespace Sys2Proof.Machine

/-! ### `setPc` -/

@[simp] theorem setPc_a (t : Addr) (s : State) : (setPc t s).a = s.a := rfl
@[simp] theorem setPc_x (t : Addr) (s : State) : (setPc t s).x = s.x := rfl
@[simp] theorem setPc_y (t : Addr) (s : State) : (setPc t s).y = s.y := rfl
@[simp] theorem setPc_sp (t : Addr) (s : State) : (setPc t s).sp = s.sp := rfl
@[simp] theorem setPc_pc (t : Addr) (s : State) : (setPc t s).pc = t := rfl
@[simp] theorem setPc_cyc (t : Addr) (s : State) : (setPc t s).cyc = s.cyc := rfl
@[simp] theorem setPc_flagC (t : Addr) (s : State) : (setPc t s).flagC = s.flagC := rfl
@[simp] theorem setPc_flagZ (t : Addr) (s : State) : (setPc t s).flagZ = s.flagZ := rfl
@[simp] theorem setPc_flagI (t : Addr) (s : State) : (setPc t s).flagI = s.flagI := rfl
@[simp] theorem setPc_flagD (t : Addr) (s : State) : (setPc t s).flagD = s.flagD := rfl
@[simp] theorem setPc_flagB (t : Addr) (s : State) : (setPc t s).flagB = s.flagB := rfl
@[simp] theorem setPc_flagU (t : Addr) (s : State) : (setPc t s).flagU = s.flagU := rfl
@[simp] theorem setPc_flagV (t : Addr) (s : State) : (setPc t s).flagV = s.flagV := rfl
@[simp] theorem setPc_flagN (t : Addr) (s : State) : (setPc t s).flagN = s.flagN := rfl
@[simp] theorem setPc_halt (t : Addr) (s : State) : (setPc t s).halt = s.halt := rfl
@[simp] theorem setPc_faultOpcode (t : Addr) (s : State) : (setPc t s).faultOpcode = s.faultOpcode := rfl
@[simp] theorem setPc_faultAddr (t : Addr) (s : State) : (setPc t s).faultAddr = s.faultAddr := rfl
@[simp] theorem setPc_mem (t : Addr) (s : State) : (setPc t s).mem = s.mem := rfl

/-! ### `advancePc` -/

@[simp] theorem advancePc_a (n : Nat) (s : State) : (advancePc n s).a = s.a := rfl
@[simp] theorem advancePc_x (n : Nat) (s : State) : (advancePc n s).x = s.x := rfl
@[simp] theorem advancePc_y (n : Nat) (s : State) : (advancePc n s).y = s.y := rfl
@[simp] theorem advancePc_sp (n : Nat) (s : State) : (advancePc n s).sp = s.sp := rfl
@[simp] theorem advancePc_pc (n : Nat) (s : State) : (advancePc n s).pc = s.pc + BitVec.ofNat 16 n := rfl
@[simp] theorem advancePc_cyc (n : Nat) (s : State) : (advancePc n s).cyc = s.cyc := rfl
@[simp] theorem advancePc_flagC (n : Nat) (s : State) : (advancePc n s).flagC = s.flagC := rfl
@[simp] theorem advancePc_flagZ (n : Nat) (s : State) : (advancePc n s).flagZ = s.flagZ := rfl
@[simp] theorem advancePc_flagI (n : Nat) (s : State) : (advancePc n s).flagI = s.flagI := rfl
@[simp] theorem advancePc_flagD (n : Nat) (s : State) : (advancePc n s).flagD = s.flagD := rfl
@[simp] theorem advancePc_flagB (n : Nat) (s : State) : (advancePc n s).flagB = s.flagB := rfl
@[simp] theorem advancePc_flagU (n : Nat) (s : State) : (advancePc n s).flagU = s.flagU := rfl
@[simp] theorem advancePc_flagV (n : Nat) (s : State) : (advancePc n s).flagV = s.flagV := rfl
@[simp] theorem advancePc_flagN (n : Nat) (s : State) : (advancePc n s).flagN = s.flagN := rfl
@[simp] theorem advancePc_halt (n : Nat) (s : State) : (advancePc n s).halt = s.halt := rfl
@[simp] theorem advancePc_faultOpcode (n : Nat) (s : State) : (advancePc n s).faultOpcode = s.faultOpcode := rfl
@[simp] theorem advancePc_faultAddr (n : Nat) (s : State) : (advancePc n s).faultAddr = s.faultAddr := rfl
@[simp] theorem advancePc_mem (n : Nat) (s : State) : (advancePc n s).mem = s.mem := rfl

/-! ### `tick` -/

@[simp] theorem tick_a (s : State) : (tick s).a = s.a := rfl
@[simp] theorem tick_x (s : State) : (tick s).x = s.x := rfl
@[simp] theorem tick_y (s : State) : (tick s).y = s.y := rfl
@[simp] theorem tick_sp (s : State) : (tick s).sp = s.sp := rfl
@[simp] theorem tick_pc (s : State) : (tick s).pc = s.pc := rfl
@[simp] theorem tick_cyc (s : State) : (tick s).cyc = s.cyc + 1 := rfl
@[simp] theorem tick_flagC (s : State) : (tick s).flagC = s.flagC := rfl
@[simp] theorem tick_flagZ (s : State) : (tick s).flagZ = s.flagZ := rfl
@[simp] theorem tick_flagI (s : State) : (tick s).flagI = s.flagI := rfl
@[simp] theorem tick_flagD (s : State) : (tick s).flagD = s.flagD := rfl
@[simp] theorem tick_flagB (s : State) : (tick s).flagB = s.flagB := rfl
@[simp] theorem tick_flagU (s : State) : (tick s).flagU = s.flagU := rfl
@[simp] theorem tick_flagV (s : State) : (tick s).flagV = s.flagV := rfl
@[simp] theorem tick_flagN (s : State) : (tick s).flagN = s.flagN := rfl
@[simp] theorem tick_halt (s : State) : (tick s).halt = s.halt := rfl
@[simp] theorem tick_faultOpcode (s : State) : (tick s).faultOpcode = s.faultOpcode := rfl
@[simp] theorem tick_faultAddr (s : State) : (tick s).faultAddr = s.faultAddr := rfl
@[simp] theorem tick_mem (s : State) : (tick s).mem = s.mem := rfl

/-! ### `setNZ` -/

@[simp] theorem setNZ_a (v : Byte) (s : State) : (setNZ v s).a = s.a := rfl
@[simp] theorem setNZ_x (v : Byte) (s : State) : (setNZ v s).x = s.x := rfl
@[simp] theorem setNZ_y (v : Byte) (s : State) : (setNZ v s).y = s.y := rfl
@[simp] theorem setNZ_sp (v : Byte) (s : State) : (setNZ v s).sp = s.sp := rfl
@[simp] theorem setNZ_pc (v : Byte) (s : State) : (setNZ v s).pc = s.pc := rfl
@[simp] theorem setNZ_cyc (v : Byte) (s : State) : (setNZ v s).cyc = s.cyc := rfl
@[simp] theorem setNZ_flagC (v : Byte) (s : State) : (setNZ v s).flagC = s.flagC := rfl
@[simp] theorem setNZ_flagZ (v : Byte) (s : State) : (setNZ v s).flagZ = decide (v = 0x00) := rfl
@[simp] theorem setNZ_flagI (v : Byte) (s : State) : (setNZ v s).flagI = s.flagI := rfl
@[simp] theorem setNZ_flagD (v : Byte) (s : State) : (setNZ v s).flagD = s.flagD := rfl
@[simp] theorem setNZ_flagB (v : Byte) (s : State) : (setNZ v s).flagB = s.flagB := rfl
@[simp] theorem setNZ_flagU (v : Byte) (s : State) : (setNZ v s).flagU = s.flagU := rfl
@[simp] theorem setNZ_flagV (v : Byte) (s : State) : (setNZ v s).flagV = s.flagV := rfl
@[simp] theorem setNZ_flagN (v : Byte) (s : State) : (setNZ v s).flagN = v.getLsbD 7 := rfl
@[simp] theorem setNZ_halt (v : Byte) (s : State) : (setNZ v s).halt = s.halt := rfl
@[simp] theorem setNZ_faultOpcode (v : Byte) (s : State) : (setNZ v s).faultOpcode = s.faultOpcode := rfl
@[simp] theorem setNZ_faultAddr (v : Byte) (s : State) : (setNZ v s).faultAddr = s.faultAddr := rfl
@[simp] theorem setNZ_mem (v : Byte) (s : State) : (setNZ v s).mem = s.mem := rfl

/-! ### `setStatus` -/

@[simp] theorem setStatus_a (b : Byte) (s : State) : (setStatus b s).a = s.a := rfl
@[simp] theorem setStatus_x (b : Byte) (s : State) : (setStatus b s).x = s.x := rfl
@[simp] theorem setStatus_y (b : Byte) (s : State) : (setStatus b s).y = s.y := rfl
@[simp] theorem setStatus_sp (b : Byte) (s : State) : (setStatus b s).sp = s.sp := rfl
@[simp] theorem setStatus_pc (b : Byte) (s : State) : (setStatus b s).pc = s.pc := rfl
@[simp] theorem setStatus_cyc (b : Byte) (s : State) : (setStatus b s).cyc = s.cyc := rfl
@[simp] theorem setStatus_flagC (b : Byte) (s : State) : (setStatus b s).flagC = b.getLsbD 0 := rfl
@[simp] theorem setStatus_flagZ (b : Byte) (s : State) : (setStatus b s).flagZ = b.getLsbD 1 := rfl
@[simp] theorem setStatus_flagI (b : Byte) (s : State) : (setStatus b s).flagI = b.getLsbD 2 := rfl
@[simp] theorem setStatus_flagD (b : Byte) (s : State) : (setStatus b s).flagD = b.getLsbD 3 := rfl
@[simp] theorem setStatus_flagB (b : Byte) (s : State) : (setStatus b s).flagB = b.getLsbD 4 := rfl
@[simp] theorem setStatus_flagU (b : Byte) (s : State) : (setStatus b s).flagU = s.flagU := rfl
@[simp] theorem setStatus_flagV (b : Byte) (s : State) : (setStatus b s).flagV = b.getLsbD 6 := rfl
@[simp] theorem setStatus_flagN (b : Byte) (s : State) : (setStatus b s).flagN = b.getLsbD 7 := rfl
@[simp] theorem setStatus_halt (b : Byte) (s : State) : (setStatus b s).halt = s.halt := rfl
@[simp] theorem setStatus_faultOpcode (b : Byte) (s : State) : (setStatus b s).faultOpcode = s.faultOpcode := rfl
@[simp] theorem setStatus_faultAddr (b : Byte) (s : State) : (setStatus b s).faultAddr = s.faultAddr := rfl
@[simp] theorem setStatus_mem (b : Byte) (s : State) : (setStatus b s).mem = s.mem := rfl

/-! ### `compareFlags` -/

@[simp] theorem compareFlags_a (reg m : Byte) (s : State) : (compareFlags reg m s).a = s.a := rfl
@[simp] theorem compareFlags_x (reg m : Byte) (s : State) : (compareFlags reg m s).x = s.x := rfl
@[simp] theorem compareFlags_y (reg m : Byte) (s : State) : (compareFlags reg m s).y = s.y := rfl
@[simp] theorem compareFlags_sp (reg m : Byte) (s : State) : (compareFlags reg m s).sp = s.sp := rfl
@[simp] theorem compareFlags_pc (reg m : Byte) (s : State) : (compareFlags reg m s).pc = s.pc := rfl
@[simp] theorem compareFlags_cyc (reg m : Byte) (s : State) : (compareFlags reg m s).cyc = s.cyc := rfl
@[simp] theorem compareFlags_flagC (reg m : Byte) (s : State) : (compareFlags reg m s).flagC = compareCarry reg m := rfl
@[simp] theorem compareFlags_flagZ (reg m : Byte) (s : State) : (compareFlags reg m s).flagZ = decide (compareResult reg m = 0x00) := rfl
@[simp] theorem compareFlags_flagI (reg m : Byte) (s : State) : (compareFlags reg m s).flagI = s.flagI := rfl
@[simp] theorem compareFlags_flagD (reg m : Byte) (s : State) : (compareFlags reg m s).flagD = s.flagD := rfl
@[simp] theorem compareFlags_flagB (reg m : Byte) (s : State) : (compareFlags reg m s).flagB = s.flagB := rfl
@[simp] theorem compareFlags_flagU (reg m : Byte) (s : State) : (compareFlags reg m s).flagU = s.flagU := rfl
@[simp] theorem compareFlags_flagV (reg m : Byte) (s : State) : (compareFlags reg m s).flagV = s.flagV := rfl
@[simp] theorem compareFlags_flagN (reg m : Byte) (s : State) : (compareFlags reg m s).flagN = (compareResult reg m).getLsbD 7 := rfl
@[simp] theorem compareFlags_halt (reg m : Byte) (s : State) : (compareFlags reg m s).halt = s.halt := rfl
@[simp] theorem compareFlags_faultOpcode (reg m : Byte) (s : State) : (compareFlags reg m s).faultOpcode = s.faultOpcode := rfl
@[simp] theorem compareFlags_faultAddr (reg m : Byte) (s : State) : (compareFlags reg m s).faultAddr = s.faultAddr := rfl
@[simp] theorem compareFlags_mem (reg m : Byte) (s : State) : (compareFlags reg m s).mem = s.mem := rfl

/-! ### `memWrite` -/

@[simp] theorem memWrite_a (a : Addr) (v : Byte) (s : State) : (memWrite a v s).a = s.a := rfl
@[simp] theorem memWrite_x (a : Addr) (v : Byte) (s : State) : (memWrite a v s).x = s.x := rfl
@[simp] theorem memWrite_y (a : Addr) (v : Byte) (s : State) : (memWrite a v s).y = s.y := rfl
@[simp] theorem memWrite_sp (a : Addr) (v : Byte) (s : State) : (memWrite a v s).sp = s.sp := rfl
@[simp] theorem memWrite_pc (a : Addr) (v : Byte) (s : State) : (memWrite a v s).pc = s.pc := rfl
@[simp] theorem memWrite_cyc (a : Addr) (v : Byte) (s : State) : (memWrite a v s).cyc = s.cyc := rfl
@[simp] theorem memWrite_flagC (a : Addr) (v : Byte) (s : State) : (memWrite a v s).flagC = s.flagC := rfl
@[simp] theorem memWrite_flagZ (a : Addr) (v : Byte) (s : State) : (memWrite a v s).flagZ = s.flagZ := rfl
@[simp] theorem memWrite_flagI (a : Addr) (v : Byte) (s : State) : (memWrite a v s).flagI = s.flagI := rfl
@[simp] theorem memWrite_flagD (a : Addr) (v : Byte) (s : State) : (memWrite a v s).flagD = s.flagD := rfl
@[simp] theorem memWrite_flagB (a : Addr) (v : Byte) (s : State) : (memWrite a v s).flagB = s.flagB := rfl
@[simp] theorem memWrite_flagU (a : Addr) (v : Byte) (s : State) : (memWrite a v s).flagU = s.flagU := rfl
@[simp] theorem memWrite_flagV (a : Addr) (v : Byte) (s : State) : (memWrite a v s).flagV = s.flagV := rfl
@[simp] theorem memWrite_flagN (a : Addr) (v : Byte) (s : State) : (memWrite a v s).flagN = s.flagN := rfl
@[simp] theorem memWrite_halt (a : Addr) (v : Byte) (s : State) : (memWrite a v s).halt = s.halt := rfl
@[simp] theorem memWrite_faultOpcode (a : Addr) (v : Byte) (s : State) : (memWrite a v s).faultOpcode = s.faultOpcode := rfl
@[simp] theorem memWrite_faultAddr (a : Addr) (v : Byte) (s : State) : (memWrite a v s).faultAddr = s.faultAddr := rfl
@[simp] theorem memWrite_mem (a : Addr) (v : Byte) (s : State) : (memWrite a v s).mem = s.mem.write a.toNat v := rfl

/-! ### `push` -/

@[simp] theorem push_a (v : Byte) (s : State) : (push v s).a = s.a := rfl
@[simp] theorem push_x (v : Byte) (s : State) : (push v s).x = s.x := rfl
@[simp] theorem push_y (v : Byte) (s : State) : (push v s).y = s.y := rfl
@[simp] theorem push_sp (v : Byte) (s : State) : (push v s).sp = s.sp + 1 := rfl
@[simp] theorem push_pc (v : Byte) (s : State) : (push v s).pc = s.pc := rfl
@[simp] theorem push_cyc (v : Byte) (s : State) : (push v s).cyc = s.cyc := rfl
@[simp] theorem push_flagC (v : Byte) (s : State) : (push v s).flagC = s.flagC := rfl
@[simp] theorem push_flagZ (v : Byte) (s : State) : (push v s).flagZ = s.flagZ := rfl
@[simp] theorem push_flagI (v : Byte) (s : State) : (push v s).flagI = s.flagI := rfl
@[simp] theorem push_flagD (v : Byte) (s : State) : (push v s).flagD = s.flagD := rfl
@[simp] theorem push_flagB (v : Byte) (s : State) : (push v s).flagB = s.flagB := rfl
@[simp] theorem push_flagU (v : Byte) (s : State) : (push v s).flagU = s.flagU := rfl
@[simp] theorem push_flagV (v : Byte) (s : State) : (push v s).flagV = s.flagV := rfl
@[simp] theorem push_flagN (v : Byte) (s : State) : (push v s).flagN = s.flagN := rfl
@[simp] theorem push_halt (v : Byte) (s : State) : (push v s).halt = s.halt := rfl
@[simp] theorem push_faultOpcode (v : Byte) (s : State) : (push v s).faultOpcode = s.faultOpcode := rfl
@[simp] theorem push_faultAddr (v : Byte) (s : State) : (push v s).faultAddr = s.faultAddr := rfl
@[simp] theorem push_mem (v : Byte) (s : State) : (push v s).mem = s.mem.write (stackAddr s.sp).toNat v := rfl

/-! ### `pulled` -/

@[simp] theorem pulled_a (s : State) : (pulled s).a = s.a := rfl
@[simp] theorem pulled_x (s : State) : (pulled s).x = s.x := rfl
@[simp] theorem pulled_y (s : State) : (pulled s).y = s.y := rfl
@[simp] theorem pulled_sp (s : State) : (pulled s).sp = s.sp - 1 := rfl
@[simp] theorem pulled_pc (s : State) : (pulled s).pc = s.pc := rfl
@[simp] theorem pulled_cyc (s : State) : (pulled s).cyc = s.cyc := rfl
@[simp] theorem pulled_flagC (s : State) : (pulled s).flagC = s.flagC := rfl
@[simp] theorem pulled_flagZ (s : State) : (pulled s).flagZ = s.flagZ := rfl
@[simp] theorem pulled_flagI (s : State) : (pulled s).flagI = s.flagI := rfl
@[simp] theorem pulled_flagD (s : State) : (pulled s).flagD = s.flagD := rfl
@[simp] theorem pulled_flagB (s : State) : (pulled s).flagB = s.flagB := rfl
@[simp] theorem pulled_flagU (s : State) : (pulled s).flagU = s.flagU := rfl
@[simp] theorem pulled_flagV (s : State) : (pulled s).flagV = s.flagV := rfl
@[simp] theorem pulled_flagN (s : State) : (pulled s).flagN = s.flagN := rfl
@[simp] theorem pulled_halt (s : State) : (pulled s).halt = s.halt := rfl
@[simp] theorem pulled_faultOpcode (s : State) : (pulled s).faultOpcode = s.faultOpcode := rfl
@[simp] theorem pulled_faultAddr (s : State) : (pulled s).faultAddr = s.faultAddr := rfl
@[simp] theorem pulled_mem (s : State) : (pulled s).mem = s.mem := rfl

/-! ### `raiseUndefinedOpcode` -/

@[simp] theorem raiseUndefinedOpcode_a (b : Byte) (t : Addr) (s : State) : (raiseUndefinedOpcode b t s).a = s.a := rfl
@[simp] theorem raiseUndefinedOpcode_x (b : Byte) (t : Addr) (s : State) : (raiseUndefinedOpcode b t s).x = s.x := rfl
@[simp] theorem raiseUndefinedOpcode_y (b : Byte) (t : Addr) (s : State) : (raiseUndefinedOpcode b t s).y = s.y := rfl
@[simp] theorem raiseUndefinedOpcode_sp (b : Byte) (t : Addr) (s : State) : (raiseUndefinedOpcode b t s).sp = s.sp := rfl
@[simp] theorem raiseUndefinedOpcode_pc (b : Byte) (t : Addr) (s : State) : (raiseUndefinedOpcode b t s).pc = s.pc := rfl
@[simp] theorem raiseUndefinedOpcode_cyc (b : Byte) (t : Addr) (s : State) : (raiseUndefinedOpcode b t s).cyc = s.cyc := rfl
@[simp] theorem raiseUndefinedOpcode_flagC (b : Byte) (t : Addr) (s : State) : (raiseUndefinedOpcode b t s).flagC = s.flagC := rfl
@[simp] theorem raiseUndefinedOpcode_flagZ (b : Byte) (t : Addr) (s : State) : (raiseUndefinedOpcode b t s).flagZ = s.flagZ := rfl
@[simp] theorem raiseUndefinedOpcode_flagI (b : Byte) (t : Addr) (s : State) : (raiseUndefinedOpcode b t s).flagI = s.flagI := rfl
@[simp] theorem raiseUndefinedOpcode_flagD (b : Byte) (t : Addr) (s : State) : (raiseUndefinedOpcode b t s).flagD = s.flagD := rfl
@[simp] theorem raiseUndefinedOpcode_flagB (b : Byte) (t : Addr) (s : State) : (raiseUndefinedOpcode b t s).flagB = s.flagB := rfl
@[simp] theorem raiseUndefinedOpcode_flagU (b : Byte) (t : Addr) (s : State) : (raiseUndefinedOpcode b t s).flagU = s.flagU := rfl
@[simp] theorem raiseUndefinedOpcode_flagV (b : Byte) (t : Addr) (s : State) : (raiseUndefinedOpcode b t s).flagV = s.flagV := rfl
@[simp] theorem raiseUndefinedOpcode_flagN (b : Byte) (t : Addr) (s : State) : (raiseUndefinedOpcode b t s).flagN = s.flagN := rfl
@[simp] theorem raiseUndefinedOpcode_halt (b : Byte) (t : Addr) (s : State) : (raiseUndefinedOpcode b t s).halt = true := rfl
@[simp] theorem raiseUndefinedOpcode_faultOpcode (b : Byte) (t : Addr) (s : State) : (raiseUndefinedOpcode b t s).faultOpcode = b := rfl
@[simp] theorem raiseUndefinedOpcode_faultAddr (b : Byte) (t : Addr) (s : State) : (raiseUndefinedOpcode b t s).faultAddr = t := rfl
@[simp] theorem raiseUndefinedOpcode_mem (b : Byte) (t : Addr) (s : State) : (raiseUndefinedOpcode b t s).mem = s.mem := rfl

end Sys2Proof.Machine
end

