-- ==== Sys2Proof/Laws/Memory.lean ====
section
/-! SUPPORT. The laws of the memory array: what a read gives after a write, and that every operation keeps the canonical
form. -/

namespace Sys2Proof.Machine

@[simp] theorem Memory.read_nil (a : Nat) : Memory.read [] a = Config.unlistedByte := rfl

theorem Memory.read_remove (m : Memory) (a b : Nat) :
    (m.remove a).read b = if b = a then Config.unlistedByte else m.read b := by
  induction m with
  | nil => simp [Memory.remove, Memory.read]
  | cons c rest ih =>
    obtain ⟨k, v⟩ := c
    by_cases hk : k = a
    · simp only [Memory.remove, hk, if_true, ih, Memory.read]
      by_cases hb : b = a
      · simp [hb]
      · simp [hb, Ne.symm hb]
    · simp only [Memory.remove, hk, if_false, Memory.read, ih]
      by_cases hkb : k = b
      · subst hkb; simp [hk]
      · simp [hkb]

theorem Memory.read_insertCell (m : Memory) (a : Nat) (v : Byte) (b : Nat) (h : m.read a = Config.unlistedByte ∨ b ≠ a)
    (hm : ∀ c ∈ m, c.1 ≠ a) : (m.insertCell a v).read b = if b = a then v else m.read b := by
  induction m with
  | nil => simp [Memory.insertCell, Memory.read, eq_comm]
  | cons c rest ih =>
    obtain ⟨k, w⟩ := c
    have hk : k ≠ a := hm (k, w) (by simp)
    have hrest : ∀ c ∈ rest, c.1 ≠ a := fun c hc => hm c (by simp [hc])
    by_cases hlt : a < k
    · simp only [Memory.insertCell, hlt, if_true, Memory.read]
      by_cases hb : b = a
      · simp [hb]
      · simp [hb, Ne.symm hb]
    · simp only [Memory.insertCell, hlt, if_false, Memory.read]
      by_cases hkb : k = b
      · subst hkb; simp [hk]
      · have h' : Memory.read rest a = Config.unlistedByte ∨ b ≠ a := by
          rcases h with h | h
          · left; simpa [Memory.read, hk] using h
          · exact .inr h
        simp [hkb, ih h' hrest]

theorem Memory.remove_ne (m : Memory) (a : Nat) : ∀ c ∈ m.remove a, c.1 ≠ a := by
  induction m with
  | nil => simp [Memory.remove]
  | cons c rest ih =>
    obtain ⟨k, v⟩ := c
    by_cases hk : k = a
    · simpa [Memory.remove, hk] using ih
    · intro c hc
      simp only [Memory.remove, hk, if_false, List.mem_cons] at hc
      rcases hc with rfl | hc
      · exact hk
      · exact ih c hc

/-- What a read gives after a write, in any memory (R41). -/
theorem Memory.read_write (m : Memory) (a : Nat) (v : Byte) (b : Nat) :
    (m.write a v).read b = if b = a then v else m.read b := by
  unfold Memory.write
  split
  · next h => rw [Memory.read_remove, h]
  · rw [Memory.read_insertCell _ _ _ _ (.inl (by simp [Memory.read_remove])) (m.remove_ne a), Memory.read_remove]
    by_cases hb : b = a <;> simp [hb]

theorem Memory.wfFrom_mono {lo lo' : Nat} (h : lo' ≤ lo) (m : Memory) (hm : Memory.wfFrom lo m = true) :
    Memory.wfFrom lo' m = true := by
  cases m with
  | nil => rfl
  | cons c rest =>
    obtain ⟨k, v⟩ := c
    simp only [Memory.wfFrom, Bool.and_eq_true, decide_eq_true_eq] at hm ⊢
    exact ⟨⟨⟨by omega, hm.1.1.2⟩, hm.1.2⟩, hm.2⟩

theorem Memory.wfFrom_remove (m : Memory) (a lo : Nat) (hm : Memory.wfFrom lo m = true) :
    Memory.wfFrom lo (m.remove a) = true := by
  induction m generalizing lo with
  | nil => rfl
  | cons c rest ih =>
    obtain ⟨k, v⟩ := c
    have hm' := hm
    simp only [Memory.wfFrom, Bool.and_eq_true, decide_eq_true_eq] at hm
    by_cases hk : k = a
    · simp only [Memory.remove, hk, if_true]
      exact ih lo (Memory.wfFrom_mono (by omega) rest hm.2)
    · simp only [Memory.remove, hk, if_false, Memory.wfFrom, Bool.and_eq_true, decide_eq_true_eq]
      exact ⟨hm.1, ih (k + 1) hm.2⟩

theorem Memory.wfFrom_insertCell (m : Memory) (a : Nat) (v : Byte) (lo : Nat) (hm : Memory.wfFrom lo m = true)
    (hne : ∀ c ∈ m, c.1 ≠ a) (hlo : lo ≤ a) (ha : a < Config.memSize) (hv : v ≠ Config.unlistedByte) :
    Memory.wfFrom lo (m.insertCell a v) = true := by
  induction m generalizing lo with
  | nil =>
    simp only [Memory.insertCell, Memory.wfFrom, Bool.and_eq_true, decide_eq_true_eq, bne_iff_ne]
    exact ⟨⟨⟨hlo, ha⟩, hv⟩, trivial⟩
  | cons c rest ih =>
    obtain ⟨k, w⟩ := c
    have hk : k ≠ a := hne (k, w) (by simp)
    have hrest : ∀ c ∈ rest, c.1 ≠ a := fun c hc => hne c (by simp [hc])
    simp only [Memory.wfFrom, Bool.and_eq_true, decide_eq_true_eq] at hm
    by_cases hlt : a < k
    · simp only [Memory.insertCell, hlt, if_true, Memory.wfFrom, Bool.and_eq_true, decide_eq_true_eq, bne_iff_ne]
      exact ⟨⟨⟨hlo, ha⟩, hv⟩, ⟨⟨by omega, hm.1.1.2⟩, by simpa using hm.1.2⟩, hm.2⟩
    · simp only [Memory.insertCell, hlt, if_false, Memory.wfFrom, Bool.and_eq_true, decide_eq_true_eq]
      exact ⟨hm.1, ih (k + 1) hm.2 hrest (by omega)⟩

/-- A write inside the array keeps the canonical form. -/
theorem Memory.write_wf (m : Memory) (a : Nat) (v : Byte) (hm : m.wf = true) (ha : a < Config.memSize) :
    (m.write a v).wf = true := by
  unfold Memory.write
  split
  · exact Memory.wfFrom_remove m a 0 hm
  · next hv =>
    exact Memory.wfFrom_insertCell _ a v 0 (Memory.wfFrom_remove m a 0 hm) (m.remove_ne a) (Nat.zero_le a) ha hv

/-- The memory of the reset state is canonical. -/
theorem reset_wf : State.reset.mem.wf = true := rfl

/-- Every write on the memory port keeps the canonical form. -/
theorem memWrite_wf (a : Addr) (v : Byte) (s : State) (h : s.mem.wf = true) : (memWrite a v s).mem.wf = true :=
  Memory.write_wf _ _ _ h a.isLt

/-- Replaying accesses keeps the canonical form. -/
theorem replayWrites_wf (l : List Access) (m : Memory) (h : m.wf = true) : (replayWrites l m).wf = true := by
  induction l generalizing m with
  | nil => exact h
  | cons c rest ih =>
    cases c with
    | read a => exact ih m h
    | write a v => exact ih _ (Memory.write_wf m _ v h a.isLt)

/-- Loading an image keeps the canonical form. -/
theorem Memory.ofImage_wf (image : List (Addr × Byte)) : (Memory.ofImage image).wf = true := by
  suffices h : ∀ m : Memory, m.wf = true →
      (image.foldl (fun (m : Memory) c => m.write c.1.toNat c.2) m).wf = true from h [] rfl
  induction image with
  | nil => exact fun m hm => hm
  | cons c rest ih => exact fun m hm => ih _ (Memory.write_wf m _ _ hm c.1.isLt)

end Sys2Proof.Machine
end

