-- ==== Sys2Proof/Laws/Ops.lean ====
section
/-! SUPPORT. The laws of the named operations: reads after the updates of the state, the stack engine, the status byte. -/

namespace Sys2Proof.Machine

/-! ### Reads see memory only -/

/-- A read depends on memory alone. -/
theorem memRead_congr {s t : State} (h : t.mem = s.mem) (a : Addr) : memRead a t = memRead a s := by
  simp [memRead, h]

/-- A two-byte read depends on memory alone. -/
theorem read16_congr {s t : State} (h : t.mem = s.mem) (a : Addr) : read16 a t = read16 a s := by
  simp [read16, memRead_congr h]

@[simp] theorem memRead_setPc (a t : Addr) (s : State) : memRead a (setPc t s) = memRead a s := rfl
@[simp] theorem memRead_advancePc (a : Addr) (n : Nat) (s : State) : memRead a (advancePc n s) = memRead a s := rfl
@[simp] theorem memRead_tick (a : Addr) (s : State) : memRead a (tick s) = memRead a s := rfl
@[simp] theorem memRead_setNZ (a : Addr) (v : Byte) (s : State) : memRead a (setNZ v s) = memRead a s := rfl
@[simp] theorem memRead_setStatus (a : Addr) (b : Byte) (s : State) : memRead a (setStatus b s) = memRead a s := rfl
@[simp] theorem memRead_pulled (a : Addr) (s : State) : memRead a (pulled s) = memRead a s := rfl

/-- What a read gives after a write (R41). -/
theorem memRead_after_memWrite (a b : Addr) (v : Byte) (s : State) :
    memRead b (memWrite a v s) = if b = a then v else memRead b s := by
  simp [memRead, Memory.read_write, BitVec.toNat_inj]

/-! ### The stack engine -/

/-- The stack location of `sp` is `256 + sp` (R190). -/
theorem stackAddr_toNat (sp : Byte) : (stackAddr sp).toNat = 256 + sp.toNat := by
  have := sp.isLt
  simp only [stackAddr, zext16, BitVec.toNat_add, BitVec.toNat_setWidth]
  show (256 + sp.toNat % 2 ^ 16) % 2 ^ 16 = 256 + sp.toNat
  omega

/-- Different values of `SP` designate different locations. -/
theorem stackAddr_inj {p q : Byte} : stackAddr p = stackAddr q ↔ p = q := by
  constructor
  · intro h
    have := congrArg BitVec.toNat h
    rw [stackAddr_toNat, stackAddr_toNat] at this
    exact BitVec.eq_of_toNat_eq (by omega)
  · rintro rfl; rfl

/-- The break vector lies outside page one (R198). -/
theorem stackAddr_ne_of_large {sp : Byte} {a : Addr} (h : 512 ≤ a.toNat) : a ≠ stackAddr sp := by
  intro e
  have := congrArg BitVec.toNat e
  have := sp.isLt
  rw [stackAddr_toNat] at *
  omega

/-- What a read gives after a push (R191). -/
theorem memRead_after_push (a : Addr) (v : Byte) (s : State) :
    memRead a (push v s) = if a = stackAddr s.sp then v else memRead a s :=
  memRead_after_memWrite _ _ _ _

/-! ### What the stack engine and the trap do, in one state each -/

/-- `Push16` (R193). -/
theorem push16_eq (w : Addr) (s : State) : push16 w s =
    { s with
      sp := s.sp + 1 + 1
      mem := (s.mem.write (stackAddr s.sp).toNat (hiByte w)).write (stackAddr (s.sp + 1)).toNat (loByte w) } := rfl

/-- `Pull16` (R193). -/
theorem pulled16_eq (s : State) : pulled16 s = { s with sp := s.sp - 1 - 1 } := rfl

/-- Taking the trap: the vector is read after the pushes, which lie elsewhere (R198, R215). -/
theorem takeBreak_eq (ret : Addr) (s : State) : takeBreak ret s =
    { s with
      sp := s.sp + 1 + 1 + 1
      pc := read16 Config.brkVector s
      flagB := true
      flagI := true
      mem := ((s.mem.write (stackAddr s.sp).toNat (hiByte ret)).write (stackAddr (s.sp + 1)).toNat (loByte ret)).write
        (stackAddr (s.sp + 1 + 1)).toNat (getStatus { s with flagB := true }) } := by
  have ne {a : Addr} (h : 512 ≤ a.toNat) (sp : Byte) : a.toNat ≠ (stackAddr sp).toNat := fun e =>
    stackAddr_ne_of_large h (BitVec.eq_of_toNat_eq e)
  have hv {a : Addr} (h : 512 ≤ a.toNat) (x y z : Byte) (p q r : Byte) :
      (((s.mem.write (stackAddr p).toNat x).write (stackAddr q).toNat y).write (stackAddr r).toNat z).read a.toNat =
        s.mem.read a.toNat := by
    rw [Memory.read_write, if_neg (ne h _), Memory.read_write, if_neg (ne h _), Memory.read_write, if_neg (ne h _)]
  simp only [takeBreak, setPc, push16_eq, push, memWrite, read16, memRead]
  rw [hv (by decide), hv (by decide)]
  rfl

/-- The return (R199, R216). -/
theorem returnFromBreak_eq (s : State) : returnFromBreak s =
    { setStatus (memRead (stackAddr (s.sp - 1)) s) s with
      sp := s.sp - 1 - 1 - 1
      pc := wordOf (memRead (stackAddr (s.sp - 1 - 1 - 1)) s) (memRead (stackAddr (s.sp - 1 - 1)) s) } := rfl

/-! ### The status byte -/

/-- `get_status` reads the eight flags alone (R17). -/
theorem getStatus_congr {s t : State} (hn : t.flagN = s.flagN) (hv : t.flagV = s.flagV) (hu : t.flagU = s.flagU)
    (hb : t.flagB = s.flagB) (hd : t.flagD = s.flagD) (hi : t.flagI = s.flagI) (hz : t.flagZ = s.flagZ)
    (hc : t.flagC = s.flagC) : getStatus t = getStatus s := by
  simp [getStatus, *]

/-! ### Words and bytes -/

/-- A word is its two bytes. -/
theorem wordOf_hi_lo (w : Addr) : wordOf (hiByte w) (loByte w) = w := by
  unfold wordOf hiByte loByte
  apply BitVec.eq_of_getLsbD_eq
  intro k hk
  simp only [BitVec.getLsbD_append, BitVec.getLsbD_extractLsb']
  by_cases h : k < 8
  · simp [h]
  · have : k - 8 < 8 := by omega
    simp [h, this, show 8 + (k - 8) = k by omega]

@[simp] theorem hiByte_wordOf (hi lo : Byte) : hiByte (wordOf hi lo) = hi := by
  apply BitVec.eq_of_getLsbD_eq
  intro k hk
  have h : (hi ++ lo).getLsbD (8 + k) = if 8 + k < 8 then lo.getLsbD (8 + k) else hi.getLsbD (8 + k - 8) :=
    BitVec.getLsbD_append
  rw [hiByte, wordOf, BitVec.getLsbD_extractLsb', h]
  simp [hk]

@[simp] theorem loByte_wordOf (hi lo : Byte) : loByte (wordOf hi lo) = lo := by
  apply BitVec.eq_of_getLsbD_eq
  intro k hk
  have h : (hi ++ lo).getLsbD (0 + k) = if 0 + k < 8 then lo.getLsbD (0 + k) else hi.getLsbD (0 + k - 8) :=
    BitVec.getLsbD_append
  rw [loByte, wordOf, BitVec.getLsbD_extractLsb', h]
  simp [hk]

/-- `hi * 256 + lo` (R6). -/
theorem wordOf_toNat (hi lo : Byte) : (wordOf hi lo).toNat = hi.toNat * 256 + lo.toNat := by
  have h := lo.isLt
  rw [wordOf, BitVec.toNat_append, ← Nat.shiftLeft_add_eq_or_of_lt h, Nat.shiftLeft_eq]

end Sys2Proof.Machine
end

