-- ==== Sys2Proof/Laws/Decode.lean ====
section
/-! SUPPORT. What the decoder's map holds, said once: under an instruction's opcode byte stands the shape that spells it,
and a shape in the map spells instructions with that opcode byte and those operand bytes. -/

namespace Sys2Proof

/-- A shape spells an instruction from its operand bytes (R60). -/
def Shape.spells (sh : Shape) (i : Instr) : Prop :=
  match sh with
  | .f1 j => j = i ∧ i.mode.bytes = []
  | .f2 f => ∃ b, f b = i ∧ i.mode.bytes = [b]
  | .f3 f => ∃ w, f w = i ∧ i.mode.bytes = [hiByte w, loByte w]

/-- What a map entry has to be: a shape of instructions with that opcode byte. -/
def Shape.fits (op : Byte) (sh : Shape) : Prop :=
  match sh with
  | .f1 i => i.opcode = op ∧ i.mode.bytes = []
  | .f2 f => ∀ b, (f b).opcode = op ∧ (f b).mode.bytes = [b]
  | .f3 f => ∀ w, (f w).opcode = op ∧ (f w).mode.bytes = [hiByte w, loByte w]

/-- A lookup in a map whose entries all fit finds an entry that fits. -/
theorem lookupShape_fits {op : Byte} {sh : Shape} {l : List (Byte × Shape)} (hl : ∀ e ∈ l, e.2.fits e.1)
    (h : lookupShape op l = some sh) : sh.fits op := by
  induction l with
  | nil => simp [lookupShape] at h
  | cons e rest ih =>
    obtain ⟨b, s⟩ := e
    simp only [lookupShape] at h
    split at h
    · next hb => subst hb; cases h; exact hl _ List.mem_cons_self
    · exact ih (fun e he => hl e (List.mem_cons_of_mem _ he)) h

/-! Row by row, the entries of the map fit (R66). -/

theorem opcodeRow0_fits : ∀ e ∈ opcodeRow0, e.2.fits e.1 := by
  unfold opcodeRow0; repeat' first | exact List.forall_mem_nil _ | refine List.forall_mem_cons.2 ⟨?_, ?_⟩ | exact ⟨rfl, rfl⟩ | exact fun _ => ⟨rfl, rfl⟩

theorem opcodeRow1_fits : ∀ e ∈ opcodeRow1, e.2.fits e.1 := by
  unfold opcodeRow1; repeat' first | exact List.forall_mem_nil _ | refine List.forall_mem_cons.2 ⟨?_, ?_⟩ | exact ⟨rfl, rfl⟩ | exact fun _ => ⟨rfl, rfl⟩

theorem opcodeRow2_fits : ∀ e ∈ opcodeRow2, e.2.fits e.1 := by
  unfold opcodeRow2; repeat' first | exact List.forall_mem_nil _ | refine List.forall_mem_cons.2 ⟨?_, ?_⟩ | exact ⟨rfl, rfl⟩ | exact fun _ => ⟨rfl, rfl⟩

theorem opcodeRow3_fits : ∀ e ∈ opcodeRow3, e.2.fits e.1 := by
  unfold opcodeRow3; repeat' first | exact List.forall_mem_nil _ | refine List.forall_mem_cons.2 ⟨?_, ?_⟩ | exact ⟨rfl, rfl⟩ | exact fun _ => ⟨rfl, rfl⟩

theorem opcodeRow4_fits : ∀ e ∈ opcodeRow4, e.2.fits e.1 := by
  unfold opcodeRow4; repeat' first | exact List.forall_mem_nil _ | refine List.forall_mem_cons.2 ⟨?_, ?_⟩ | exact ⟨rfl, rfl⟩ | exact fun _ => ⟨rfl, rfl⟩

theorem opcodeRow5_fits : ∀ e ∈ opcodeRow5, e.2.fits e.1 := by
  unfold opcodeRow5; repeat' first | exact List.forall_mem_nil _ | refine List.forall_mem_cons.2 ⟨?_, ?_⟩ | exact ⟨rfl, rfl⟩ | exact fun _ => ⟨rfl, rfl⟩

theorem opcodeRow6_fits : ∀ e ∈ opcodeRow6, e.2.fits e.1 := by
  unfold opcodeRow6; repeat' first | exact List.forall_mem_nil _ | refine List.forall_mem_cons.2 ⟨?_, ?_⟩ | exact ⟨rfl, rfl⟩ | exact fun _ => ⟨rfl, rfl⟩

theorem opcodeRow7_fits : ∀ e ∈ opcodeRow7, e.2.fits e.1 := by
  unfold opcodeRow7; repeat' first | exact List.forall_mem_nil _ | refine List.forall_mem_cons.2 ⟨?_, ?_⟩ | exact ⟨rfl, rfl⟩ | exact fun _ => ⟨rfl, rfl⟩

theorem opcodeRow8_fits : ∀ e ∈ opcodeRow8, e.2.fits e.1 := by
  unfold opcodeRow8; repeat' first | exact List.forall_mem_nil _ | refine List.forall_mem_cons.2 ⟨?_, ?_⟩ | exact ⟨rfl, rfl⟩ | exact fun _ => ⟨rfl, rfl⟩

theorem opcodeRow9_fits : ∀ e ∈ opcodeRow9, e.2.fits e.1 := by
  unfold opcodeRow9; repeat' first | exact List.forall_mem_nil _ | refine List.forall_mem_cons.2 ⟨?_, ?_⟩ | exact ⟨rfl, rfl⟩ | exact fun _ => ⟨rfl, rfl⟩

theorem opcodeRowA_fits : ∀ e ∈ opcodeRowA, e.2.fits e.1 := by
  unfold opcodeRowA; repeat' first | exact List.forall_mem_nil _ | refine List.forall_mem_cons.2 ⟨?_, ?_⟩ | exact ⟨rfl, rfl⟩ | exact fun _ => ⟨rfl, rfl⟩

theorem opcodeRowB_fits : ∀ e ∈ opcodeRowB, e.2.fits e.1 := by
  unfold opcodeRowB; repeat' first | exact List.forall_mem_nil _ | refine List.forall_mem_cons.2 ⟨?_, ?_⟩ | exact ⟨rfl, rfl⟩ | exact fun _ => ⟨rfl, rfl⟩

theorem opcodeRowC_fits : ∀ e ∈ opcodeRowC, e.2.fits e.1 := by
  unfold opcodeRowC; repeat' first | exact List.forall_mem_nil _ | refine List.forall_mem_cons.2 ⟨?_, ?_⟩ | exact ⟨rfl, rfl⟩ | exact fun _ => ⟨rfl, rfl⟩

theorem opcodeRowD_fits : ∀ e ∈ opcodeRowD, e.2.fits e.1 := by
  unfold opcodeRowD; repeat' first | exact List.forall_mem_nil _ | refine List.forall_mem_cons.2 ⟨?_, ?_⟩ | exact ⟨rfl, rfl⟩ | exact fun _ => ⟨rfl, rfl⟩

theorem opcodeRowE_fits : ∀ e ∈ opcodeRowE, e.2.fits e.1 := by
  unfold opcodeRowE; repeat' first | exact List.forall_mem_nil _ | refine List.forall_mem_cons.2 ⟨?_, ?_⟩ | exact ⟨rfl, rfl⟩ | exact fun _ => ⟨rfl, rfl⟩

theorem opcodeRowF_fits : ∀ e ∈ opcodeRowF, e.2.fits e.1 := by
  unfold opcodeRowF; repeat' first | exact List.forall_mem_nil _ | refine List.forall_mem_cons.2 ⟨?_, ?_⟩ | exact ⟨rfl, rfl⟩ | exact fun _ => ⟨rfl, rfl⟩

/-- The entries of the map fit (R66). -/
theorem opcodeMap_fits (row : Nat) : ∀ e ∈ opcodeMap row, e.2.fits e.1 := by
  match row with
  | 0 => exact opcodeRow0_fits
  | 1 => exact opcodeRow1_fits
  | 2 => exact opcodeRow2_fits
  | 3 => exact opcodeRow3_fits
  | 4 => exact opcodeRow4_fits
  | 5 => exact opcodeRow5_fits
  | 6 => exact opcodeRow6_fits
  | 7 => exact opcodeRow7_fits
  | 8 => exact opcodeRow8_fits
  | 9 => exact opcodeRow9_fits
  | 10 => exact opcodeRowA_fits
  | 11 => exact opcodeRowB_fits
  | 12 => exact opcodeRowC_fits
  | 13 => exact opcodeRowD_fits
  | 14 => exact opcodeRowE_fits
  | _ + 15 => exact opcodeRowF_fits

/-- A shape found under a byte spells instructions with that opcode byte. -/
theorem shapeOf_fits {op : Byte} {sh : Shape} (h : shapeOf op = some sh) : sh.fits op :=
  lookupShape_fits (opcodeMap_fits _) h

end Sys2Proof
end

