-- ==== Sys2Proof/Laws/Exec.lean ====
section
/-! SUPPORT. What an instruction can do, said once: `exec` is `execute` with the handler of the mnemonic, and a handler
that answers a next state makes `execute` answer it with one more tick. -/

namespace Sys2Proof.Machine

/-- The handler of each mnemonic (R82: dispatch). -/
def handler : Mnemonic → Operand → State → Result
  | .adc => adcHandler
  | .sbc => sbcHandler
  | .cmp => cmpHandler
  | .cpx => cpxHandler
  | .cpy => cpyHandler
  | .and => andHandler
  | .ora => oraHandler
  | .eor => eorHandler
  | .lda => ldaHandler
  | .ldx => ldxHandler
  | .ldy => ldyHandler
  | .inc => incHandler
  | .dec => decHandler
  | .sta => staHandler
  | .stx => stxHandler
  | .sty => styHandler
  | .inx => incHandler
  | .iny => incHandler
  | .dex => decHandler
  | .dey => decHandler
  | .asl => aslHandler
  | .lsr => lsrHandler
  | .rol => rolHandler
  | .ror => rorHandler
  | .bit => bitHandler
  | .tax => taxHandler
  | .tay => tayHandler
  | .txa => txaHandler
  | .tya => tyaHandler
  | .tsx => tsxHandler
  | .txs => txsHandler
  | .clc => clcHandler
  | .cld => cldHandler
  | .cli => cliHandler
  | .clv => clvHandler
  | .sec => secHandler
  | .sed => sedHandler
  | .sei => seiHandler
  | .nop => nopHandler
  | .bcc => bccHandler
  | .bcs => bcsHandler
  | .beq => beqHandler
  | .bmi => bmiHandler
  | .bne => bneHandler
  | .bpl => bplHandler
  | .bvc => bvcHandler
  | .bvs => bvsHandler
  | .jmp => jmpHandler
  | .jsr => jsrHandler
  | .rts => rtsHandler
  | .pha => phaHandler
  | .php => phpHandler
  | .pla => plaHandler
  | .plp => plpHandler
  | .brk => brkHandler
  | .rti => rtiHandler

/-- Every meaning is its mnemonic's handler on its operand. -/
theorem exec_eq (i : Instr) (s : State) : exec i s = execute i.mnemonic.group i.mode (handler i.mnemonic) s := by
  cases i <;> rfl

/-- Resolution reads `X`, `Y` and memory alone (R84). -/
theorem resolve_congr (g : Group) (m : Mode) {s t : State} (hx : t.x = s.x) (hy : t.y = s.y) (hm : t.mem = s.mem) :
    resolve g m t = resolve g m s := by
  cases m <;> simp [resolve, zeroPageX, indirectY, indirectX, read16_congr hm, hx, hy]

/-- Moving `PC` changes no operand. -/
@[simp] theorem resolve_advancePc (g : Group) (m : Mode) (n : Nat) (s : State) :
    resolve g m (advancePc n s) = resolve g m s := resolve_congr g m rfl rfl rfl

/-- `PC` past the opcode byte and then past the operand bytes is `PC` past the instruction (R101). -/
theorem advancePc_length (i : Instr) (s : State) :
    advancePc i.mode.operandBytes (advancePc 1 s) = { s with pc := s.pc + BitVec.ofNat 16 i.length } := by
  simp [advancePc, Instr.length, BitVec.add_assoc, BitVec.ofNat_add]

/-- `exec` on the state its handler sees. -/
theorem exec_handler (i : Instr) (s : State) :
    exec i s = completeStep
      (handler i.mnemonic (operandOf i s) { s with pc := s.pc + BitVec.ofNat 16 i.length }) := by
  rw [exec_eq, execute, resolve_advancePc, advancePc_length]; rfl

/-- A handler's next state is the instruction's, one tick later. -/
theorem exec_next {i : Instr} {s t : State}
    (h : handler i.mnemonic (operandOf i s) { s with pc := s.pc + BitVec.ofNat 16 i.length } = .next t) :
    exec i s = .next (tick t) := by
  rw [exec_handler, h]; rfl

/-! ### The operand each mode gives, by mnemonic -/

/-- The readable operands of the operand-consuming group. -/
theorem operandOf_consuming {i : Instr} (h : i.mnemonic.group = .operandConsuming) (s : State) :
    (∃ v, operandOf i s = .immediate v) ∨ (∃ a, operandOf i s = .memory a) ∨ operandOf i s = .accumulator := by
  cases i <;> simp_all [operandOf, Instr.mnemonic, Mnemonic.group, Instr.mode, resolve]

/-- An operand of the operand-consuming group can be read (R97, R99). -/
theorem operandRead_consuming {i : Instr} (h : i.mnemonic.group = .operandConsuming) (s : State) :
    ∃ m, operandRead (operandOf i s) s = some m := by
  rcases operandOf_consuming h s with ⟨v, e⟩ | ⟨a, e⟩ | e <;> simp [e, operandRead]

/-- The stores and the memory forms of the other writing mnemonics write memory or `A` (R99). -/
theorem operandOf_writing {i : Instr}
    (h : i.mnemonic ∈ [.sta, .stx, .sty, .inc, .dec, .asl, .lsr, .rol, .ror]) (s : State) :
    (∃ a, operandOf i s = .memory a) ∨ operandOf i s = .accumulator ∧ i.mnemonic ∈ [.asl, .lsr, .rol, .ror] := by
  cases i <;> simp_all [operandOf, Instr.mnemonic, Mnemonic.group, Instr.mode, resolve]

/-- A branch's operand is a displacement (R94). -/
theorem operandOf_branch {i : Instr} (h : i.mnemonic ∈ [.bcc, .bcs, .beq, .bmi, .bne, .bpl, .bvc, .bvs]) (s : State) :
    ∃ d, i.mode = .rel d ∧ operandOf i s = .relative (sext16 d) := by
  cases i <;> simp_all [operandOf, Instr.mnemonic, Instr.mode, resolve]

/-- The operand of `JMP` and `JSR` is a target (R89, R95). -/
theorem operandOf_jump {i : Instr} (h : i.mnemonic ∈ [.jmp, .jsr]) (s : State) :
    ∃ t, operandOf i s = .target t := by
  cases i <;> simp_all [operandOf, Instr.mnemonic, Mnemonic.group, Instr.mode, resolve]

/-! ### The shared shapes of a handler -/

@[simp] theorem completeStep_next (s : State) : completeStep (.next s) = .next (tick s) := rfl

/-- Reading an operand that can be read. -/
theorem readOperand_some {op : Operand} {s : State} {m : Byte} (h : operandRead op s = some m) (k : Byte → Result) :
    readOperand op s k = k m := by
  simp [readOperand, h]

@[simp] theorem writeOperand_memory (a : Addr) (v : Byte) (s : State) :
    writeOperand (.memory a) v s = .next (memWrite a v s) := rfl
@[simp] theorem writeOperand_accumulator (v : Byte) (s : State) :
    writeOperand .accumulator v s = .next { s with a := v } := rfl
@[simp] theorem writeOperand_registerX (v : Byte) (s : State) :
    writeOperand .registerX v s = .next { s with x := v } := rfl
@[simp] theorem writeOperand_registerY (v : Byte) (s : State) :
    writeOperand .registerY v s = .next { s with y := v } := rfl
@[simp] theorem withDisplacement_relative (d : Addr) (k : Addr → Result) : withDisplacement (.relative d) k = k d := rfl
@[simp] theorem withTarget_target (t : Addr) (k : Addr → Result) : withTarget (.target t) k = k t := rfl

/-- Reading an operand does not depend on `PC`. -/
theorem operandRead_pc (op : Operand) (s : State) (t : Addr) : operandRead op { s with pc := t } = operandRead op s := by
  cases op <;> rfl

/-! ### What a handler that answers has done -/

/-- A handler that reads its operand and answers has read a byte. -/
theorem readOperand_next {op : Operand} {s t : State} {k : Byte → Result} (h : readOperand op s k = .next t) :
    ∃ m, operandRead op s = some m ∧ k m = .next t := by
  unfold readOperand at h
  split at h
  · exact ⟨_, ‹_›, h⟩
  · cases h

/-- A handler that writes its operand and answers has changed one memory byte or one of `A`, `X`, `Y` (R98). -/
theorem writeOperand_next {op : Operand} {v : Byte} {s t : State} (h : writeOperand op v s = .next t) :
    (∃ a, op = .memory a ∧ t = memWrite a v s) ∨ (op = .accumulator ∧ t = { s with a := v }) ∨
    (op = .registerX ∧ t = { s with x := v }) ∨ (op = .registerY ∧ t = { s with y := v }) := by
  cases op <;> cases h <;> simp

/-- A branch that answers has added its displacement or done nothing (R170). -/
theorem branch_next {c : Bool} {op : Operand} {s t : State} (h : branch c op s = .next t) :
    ∃ d, op = .relative d ∧ t = if c then setPc (s.pc + d) s else s := by
  cases op <;> cases h
  exact ⟨_, rfl, rfl⟩

/-- A jump that answers had a target (R179, R180). -/
theorem withTarget_next {op : Operand} {k : Addr → Result} {t : State} (h : withTarget op k = .next t) :
    ∃ a, op = .target a ∧ k a = .next t := by
  cases op with
  | target a => exact ⟨a, rfl, h⟩
  | _ => cases h

/-- A handler answers on the operand its instruction resolves to. -/
theorem handler_answers (i : Instr) (s u : State) : ∃ t, handler i.mnemonic (operandOf i s) u = .next t := by
  cases i <;> exact ⟨_, rfl⟩

/-- No handler touches `CYC`, `HALT`, the fault records or `U`. -/
theorem handler_keeps {mn : Mnemonic} {op : Operand} {s t : State} (h : handler mn op s = .next t) :
    t.cyc = s.cyc ∧ t.halt = s.halt ∧ t.faultOpcode = s.faultOpcode ∧ t.faultAddr = s.faultAddr ∧
      t.flagU = s.flagU := by
  cases mn
  case adc | sbc | cmp | cpx | cpy | and | ora | eor | lda | ldx | ldy | bit =>
    obtain ⟨m, _, h⟩ := readOperand_next h
    cases h; simp
  case inc | dec | inx | iny | dex | dey | asl | lsr | rol | ror =>
    obtain ⟨m, _, h⟩ := readOperand_next h
    rcases writeOperand_next h with ⟨a, _, h⟩ | ⟨_, h⟩ | ⟨_, h⟩ | ⟨_, h⟩ <;> cases h <;> simp
  case sta | stx | sty =>
    rcases writeOperand_next h with ⟨a, _, h⟩ | ⟨_, h⟩ | ⟨_, h⟩ | ⟨_, h⟩ <;> cases h <;> simp
  case bcc | bcs | beq | bmi | bne | bpl | bvc | bvs =>
    obtain ⟨d, _, h⟩ := branch_next h
    subst h; split <;> simp
  case jmp | jsr =>
    obtain ⟨d, _, h⟩ := withTarget_next h
    cases h; simp [push16]
  all_goals (cases h; simp [push16, pulled16, takeBreak, returnFromBreak])

end Sys2Proof.Machine
end

