-- ==== Sys2Proof/Laws/Step.lean ====
section
/-! SUPPORT. What a step can do: nothing, the decoded instruction, or the fault; and when
the fetch fails. -/

namespace Sys2Proof.Machine

/-- The three kinds of step (R80). -/
theorem step_cases (s : State) :
    (s.halt = true ∧ step s = .next s) ∨
    (s.halt = false ∧ ∃ i, fetch s = some i ∧ step s = exec i s) ∨
    (s.halt = false ∧ fetch s = none ∧ step s = .next (raiseUndefinedOpcode (fetchOpcode s) s.pc s)) := by
  unfold step runStep
  cases hh : s.halt with
  | true => exact .inl ⟨rfl, by simp⟩
  | false =>
    right
    cases hf : fetch s with
    | some i => exact .inl ⟨rfl, i, rfl, by simp⟩
    | none => exact .inr ⟨rfl, rfl, by simp⟩

/-- The fetch fails exactly on an undefined opcode byte (R82, R211): as many bytes are read as the instruction has. -/
theorem fetch_eq_none (s : State) : fetch s = none ↔ undefinedOpcode (fetchOpcode s) = true := by
  unfold fetch fetchBytes decodeInstr lengthOf undefinedOpcode
  cases h : shapeOf (fetchOpcode s) with
  | none => simp [readBytes, decode, show memRead s.pc s = fetchOpcode s from rfl, h]
  | some sh =>
    cases sh <;> simp [Shape.operandBytes, readBytes, decode, show memRead s.pc s = fetchOpcode s from rfl, h]

/-- A fetched instruction has the length its opcode byte gives (R69). -/
theorem fetch_length {s : State} {i : Instr} (h : fetch s = some i) : lengthOf (fetchOpcode s) = i.length := by
  unfold fetch fetchBytes decodeInstr lengthOf at h
  unfold lengthOf
  cases hh : shapeOf (fetchOpcode s) with
  | none => simp [readBytes, decode, show memRead s.pc s = fetchOpcode s from rfl, hh] at h
  | some sh =>
    have hf := shapeOf_fits hh
    cases sh <;>
      simp [Shape.operandBytes, readBytes, decode, show memRead s.pc s = fetchOpcode s from rfl, hh] at h <;>
      subst h <;> simp [Shape.operandBytes, Instr.length, Mode.operandBytes, Shape.fits] at hf ⊢ <;> simp [hf]

end Sys2Proof.Machine
end

