-- ==== Sys2Proof/Laws/Driver.lean ====
section
/-! SUPPORT. What a launch and one more step of a run give. -/

namespace Sys2Proof.Machine

@[simp] theorem launchState_pc (l : Launch) : (launchState l).pc = l.entry := rfl
@[simp] theorem launchState_halt (l : Launch) : (launchState l).halt = false := rfl
@[simp] theorem launchState_flagU (l : Launch) : (launchState l).flagU = true := rfl
@[simp] theorem launchState_mem (l : Launch) : (launchState l).mem = Memory.ofImage l.image := rfl

/-- What the convention for the end of a run asks of a state (R236). -/
theorem ended_iff (l : Launch) (s : State) : ended l s = true ↔ s.halt = false ∧ s.pc = l.finish := by
  simp [ended]

/-- A run that has ended stays where it is. -/
theorem runFrom_of_ended {l : Launch} {s : State} (h : ended l s = true) (n : Nat) : runFrom l n s = some s := by
  cases n <;> simp [runFrom, h]

/-- With no steps left, a run that has not ended has no result. -/
theorem runFrom_zero {l : Launch} {s : State} (h : ended l s = false) : runFrom l 0 s = none := by
  simp [runFrom, h]

/-- A run that has not ended goes on from the next state. -/
theorem runFrom_succ {l : Launch} {s t : State} (h : ended l s = false) (hs : step s = .next t) (n : Nat) :
    runFrom l (n + 1) s = runFrom l n t := by
  simp [runFrom, h, hs]

end Sys2Proof.Machine
end

