-- ==== Sys2Proof/Laws/PerInstr.lean ====
section
/-! SUPPORT. Per-instruction families (LAWS.json). `TableRow`: the instruction is well formed, and the decoder's map has
under the instruction's opcode byte a shape that spells the instruction from its operand bytes. -/

namespace Sys2Proof.Laws.TableRow

/-- What the family says of an instruction. -/
def Statement (i : Instr) : Prop :=
  i.wellFormed = true ∧ ∃ sh, shapeOf i.opcode = some sh ∧ sh.spells i

theorem adcZpxd (b : Byte) : Statement (.adcZpxd b) := ⟨rfl, _, (rfl : shapeOf 0x61 = some (.f2 .adcZpxd)), b, rfl, rfl⟩
theorem adcZp (b : Byte) : Statement (.adcZp b) := ⟨rfl, _, (rfl : shapeOf 0x65 = some (.f2 .adcZp)), b, rfl, rfl⟩
theorem adcImm (v : Byte) : Statement (.adcImm v) := ⟨rfl, _, (rfl : shapeOf 0x69 = some (.f2 .adcImm)), v, rfl, rfl⟩
theorem adcAbs (w : Addr) : Statement (.adcAbs w) := ⟨rfl, _, (rfl : shapeOf 0x6D = some (.f3 .adcAbs)), w, rfl, rfl⟩
theorem adcIndy (b : Byte) : Statement (.adcIndy b) := ⟨rfl, _, (rfl : shapeOf 0x71 = some (.f2 .adcIndy)), b, rfl, rfl⟩
theorem adcZpxi (b : Byte) : Statement (.adcZpxi b) := ⟨rfl, _, (rfl : shapeOf 0x75 = some (.f2 .adcZpxi)), b, rfl, rfl⟩
theorem adcAbsy (w : Addr) : Statement (.adcAbsy w) := ⟨rfl, _, (rfl : shapeOf 0x79 = some (.f3 .adcAbsy)), w, rfl, rfl⟩
theorem adcAbsx (w : Addr) : Statement (.adcAbsx w) := ⟨rfl, _, (rfl : shapeOf 0x7D = some (.f3 .adcAbsx)), w, rfl, rfl⟩
theorem sbcZpxd (b : Byte) : Statement (.sbcZpxd b) := ⟨rfl, _, (rfl : shapeOf 0xE1 = some (.f2 .sbcZpxd)), b, rfl, rfl⟩
theorem sbcZp (b : Byte) : Statement (.sbcZp b) := ⟨rfl, _, (rfl : shapeOf 0xE5 = some (.f2 .sbcZp)), b, rfl, rfl⟩
theorem sbcImm (v : Byte) : Statement (.sbcImm v) := ⟨rfl, _, (rfl : shapeOf 0xE9 = some (.f2 .sbcImm)), v, rfl, rfl⟩
theorem sbcAbs (w : Addr) : Statement (.sbcAbs w) := ⟨rfl, _, (rfl : shapeOf 0xED = some (.f3 .sbcAbs)), w, rfl, rfl⟩
theorem sbcIndy (b : Byte) : Statement (.sbcIndy b) := ⟨rfl, _, (rfl : shapeOf 0xF1 = some (.f2 .sbcIndy)), b, rfl, rfl⟩
theorem sbcZpxi (b : Byte) : Statement (.sbcZpxi b) := ⟨rfl, _, (rfl : shapeOf 0xF5 = some (.f2 .sbcZpxi)), b, rfl, rfl⟩
theorem sbcAbsy (w : Addr) : Statement (.sbcAbsy w) := ⟨rfl, _, (rfl : shapeOf 0xF9 = some (.f3 .sbcAbsy)), w, rfl, rfl⟩
theorem sbcAbsx (w : Addr) : Statement (.sbcAbsx w) := ⟨rfl, _, (rfl : shapeOf 0xFD = some (.f3 .sbcAbsx)), w, rfl, rfl⟩
theorem cmpZpxd (b : Byte) : Statement (.cmpZpxd b) := ⟨rfl, _, (rfl : shapeOf 0xC1 = some (.f2 .cmpZpxd)), b, rfl, rfl⟩
theorem cmpZp (b : Byte) : Statement (.cmpZp b) := ⟨rfl, _, (rfl : shapeOf 0xC5 = some (.f2 .cmpZp)), b, rfl, rfl⟩
theorem cmpImm (v : Byte) : Statement (.cmpImm v) := ⟨rfl, _, (rfl : shapeOf 0xC9 = some (.f2 .cmpImm)), v, rfl, rfl⟩
theorem cmpAbs (w : Addr) : Statement (.cmpAbs w) := ⟨rfl, _, (rfl : shapeOf 0xCD = some (.f3 .cmpAbs)), w, rfl, rfl⟩
theorem cmpIndy (b : Byte) : Statement (.cmpIndy b) := ⟨rfl, _, (rfl : shapeOf 0xD1 = some (.f2 .cmpIndy)), b, rfl, rfl⟩
theorem cmpZpxi (b : Byte) : Statement (.cmpZpxi b) := ⟨rfl, _, (rfl : shapeOf 0xD5 = some (.f2 .cmpZpxi)), b, rfl, rfl⟩
theorem cmpAbsy (w : Addr) : Statement (.cmpAbsy w) := ⟨rfl, _, (rfl : shapeOf 0xD9 = some (.f3 .cmpAbsy)), w, rfl, rfl⟩
theorem cmpAbsx (w : Addr) : Statement (.cmpAbsx w) := ⟨rfl, _, (rfl : shapeOf 0xDD = some (.f3 .cmpAbsx)), w, rfl, rfl⟩
theorem cpxImm (v : Byte) : Statement (.cpxImm v) := ⟨rfl, _, (rfl : shapeOf 0xE0 = some (.f2 .cpxImm)), v, rfl, rfl⟩
theorem cpxZp (b : Byte) : Statement (.cpxZp b) := ⟨rfl, _, (rfl : shapeOf 0xE4 = some (.f2 .cpxZp)), b, rfl, rfl⟩
theorem cpxAbs (w : Addr) : Statement (.cpxAbs w) := ⟨rfl, _, (rfl : shapeOf 0xEC = some (.f3 .cpxAbs)), w, rfl, rfl⟩
theorem cpyImm (v : Byte) : Statement (.cpyImm v) := ⟨rfl, _, (rfl : shapeOf 0xC0 = some (.f2 .cpyImm)), v, rfl, rfl⟩
theorem cpyZp (b : Byte) : Statement (.cpyZp b) := ⟨rfl, _, (rfl : shapeOf 0xC4 = some (.f2 .cpyZp)), b, rfl, rfl⟩
theorem cpyAbs (w : Addr) : Statement (.cpyAbs w) := ⟨rfl, _, (rfl : shapeOf 0xCC = some (.f3 .cpyAbs)), w, rfl, rfl⟩
theorem andZpxd (b : Byte) : Statement (.andZpxd b) := ⟨rfl, _, (rfl : shapeOf 0x21 = some (.f2 .andZpxd)), b, rfl, rfl⟩
theorem andZp (b : Byte) : Statement (.andZp b) := ⟨rfl, _, (rfl : shapeOf 0x25 = some (.f2 .andZp)), b, rfl, rfl⟩
theorem andImm (v : Byte) : Statement (.andImm v) := ⟨rfl, _, (rfl : shapeOf 0x29 = some (.f2 .andImm)), v, rfl, rfl⟩
theorem andAbs (w : Addr) : Statement (.andAbs w) := ⟨rfl, _, (rfl : shapeOf 0x2D = some (.f3 .andAbs)), w, rfl, rfl⟩
theorem andIndy (b : Byte) : Statement (.andIndy b) := ⟨rfl, _, (rfl : shapeOf 0x31 = some (.f2 .andIndy)), b, rfl, rfl⟩
theorem andZpxi (b : Byte) : Statement (.andZpxi b) := ⟨rfl, _, (rfl : shapeOf 0x35 = some (.f2 .andZpxi)), b, rfl, rfl⟩
theorem andAbsy (w : Addr) : Statement (.andAbsy w) := ⟨rfl, _, (rfl : shapeOf 0x39 = some (.f3 .andAbsy)), w, rfl, rfl⟩
theorem andAbsx (w : Addr) : Statement (.andAbsx w) := ⟨rfl, _, (rfl : shapeOf 0x3D = some (.f3 .andAbsx)), w, rfl, rfl⟩
theorem oraZpxd (b : Byte) : Statement (.oraZpxd b) := ⟨rfl, _, (rfl : shapeOf 0x01 = some (.f2 .oraZpxd)), b, rfl, rfl⟩
theorem oraZp (b : Byte) : Statement (.oraZp b) := ⟨rfl, _, (rfl : shapeOf 0x05 = some (.f2 .oraZp)), b, rfl, rfl⟩
theorem oraImm (v : Byte) : Statement (.oraImm v) := ⟨rfl, _, (rfl : shapeOf 0x09 = some (.f2 .oraImm)), v, rfl, rfl⟩
theorem oraAbs (w : Addr) : Statement (.oraAbs w) := ⟨rfl, _, (rfl : shapeOf 0x0D = some (.f3 .oraAbs)), w, rfl, rfl⟩
theorem oraIndy (b : Byte) : Statement (.oraIndy b) := ⟨rfl, _, (rfl : shapeOf 0x11 = some (.f2 .oraIndy)), b, rfl, rfl⟩
theorem oraZpxi (b : Byte) : Statement (.oraZpxi b) := ⟨rfl, _, (rfl : shapeOf 0x15 = some (.f2 .oraZpxi)), b, rfl, rfl⟩
theorem oraAbsy (w : Addr) : Statement (.oraAbsy w) := ⟨rfl, _, (rfl : shapeOf 0x19 = some (.f3 .oraAbsy)), w, rfl, rfl⟩
theorem oraAbsx (w : Addr) : Statement (.oraAbsx w) := ⟨rfl, _, (rfl : shapeOf 0x1D = some (.f3 .oraAbsx)), w, rfl, rfl⟩
theorem eorZpxd (b : Byte) : Statement (.eorZpxd b) := ⟨rfl, _, (rfl : shapeOf 0x41 = some (.f2 .eorZpxd)), b, rfl, rfl⟩
theorem eorZp (b : Byte) : Statement (.eorZp b) := ⟨rfl, _, (rfl : shapeOf 0x45 = some (.f2 .eorZp)), b, rfl, rfl⟩
theorem eorImm (v : Byte) : Statement (.eorImm v) := ⟨rfl, _, (rfl : shapeOf 0x49 = some (.f2 .eorImm)), v, rfl, rfl⟩
theorem eorAbs (w : Addr) : Statement (.eorAbs w) := ⟨rfl, _, (rfl : shapeOf 0x4D = some (.f3 .eorAbs)), w, rfl, rfl⟩
theorem eorIndy (b : Byte) : Statement (.eorIndy b) := ⟨rfl, _, (rfl : shapeOf 0x51 = some (.f2 .eorIndy)), b, rfl, rfl⟩
theorem eorZpxi (b : Byte) : Statement (.eorZpxi b) := ⟨rfl, _, (rfl : shapeOf 0x55 = some (.f2 .eorZpxi)), b, rfl, rfl⟩
theorem eorAbsy (w : Addr) : Statement (.eorAbsy w) := ⟨rfl, _, (rfl : shapeOf 0x59 = some (.f3 .eorAbsy)), w, rfl, rfl⟩
theorem eorAbsx (w : Addr) : Statement (.eorAbsx w) := ⟨rfl, _, (rfl : shapeOf 0x5D = some (.f3 .eorAbsx)), w, rfl, rfl⟩
theorem ldaZpxd (b : Byte) : Statement (.ldaZpxd b) := ⟨rfl, _, (rfl : shapeOf 0xA1 = some (.f2 .ldaZpxd)), b, rfl, rfl⟩
theorem ldaZp (b : Byte) : Statement (.ldaZp b) := ⟨rfl, _, (rfl : shapeOf 0xA5 = some (.f2 .ldaZp)), b, rfl, rfl⟩
theorem ldaImm (v : Byte) : Statement (.ldaImm v) := ⟨rfl, _, (rfl : shapeOf 0xA9 = some (.f2 .ldaImm)), v, rfl, rfl⟩
theorem ldaAbs (w : Addr) : Statement (.ldaAbs w) := ⟨rfl, _, (rfl : shapeOf 0xAD = some (.f3 .ldaAbs)), w, rfl, rfl⟩
theorem ldaIndy (b : Byte) : Statement (.ldaIndy b) := ⟨rfl, _, (rfl : shapeOf 0xB1 = some (.f2 .ldaIndy)), b, rfl, rfl⟩
theorem ldaZpxi (b : Byte) : Statement (.ldaZpxi b) := ⟨rfl, _, (rfl : shapeOf 0xB5 = some (.f2 .ldaZpxi)), b, rfl, rfl⟩
theorem ldaAbsy (w : Addr) : Statement (.ldaAbsy w) := ⟨rfl, _, (rfl : shapeOf 0xB9 = some (.f3 .ldaAbsy)), w, rfl, rfl⟩
theorem ldaAbsx (w : Addr) : Statement (.ldaAbsx w) := ⟨rfl, _, (rfl : shapeOf 0xBD = some (.f3 .ldaAbsx)), w, rfl, rfl⟩
theorem ldxImm (v : Byte) : Statement (.ldxImm v) := ⟨rfl, _, (rfl : shapeOf 0xA2 = some (.f2 .ldxImm)), v, rfl, rfl⟩
theorem ldxZp (b : Byte) : Statement (.ldxZp b) := ⟨rfl, _, (rfl : shapeOf 0xA6 = some (.f2 .ldxZp)), b, rfl, rfl⟩
theorem ldxAbs (w : Addr) : Statement (.ldxAbs w) := ⟨rfl, _, (rfl : shapeOf 0xAE = some (.f3 .ldxAbs)), w, rfl, rfl⟩
theorem ldxZpxi (b : Byte) : Statement (.ldxZpxi b) := ⟨rfl, _, (rfl : shapeOf 0xB6 = some (.f2 .ldxZpxi)), b, rfl, rfl⟩
theorem ldxAbsx (w : Addr) : Statement (.ldxAbsx w) := ⟨rfl, _, (rfl : shapeOf 0xBE = some (.f3 .ldxAbsx)), w, rfl, rfl⟩
theorem ldyImm (v : Byte) : Statement (.ldyImm v) := ⟨rfl, _, (rfl : shapeOf 0xA0 = some (.f2 .ldyImm)), v, rfl, rfl⟩
theorem ldyZp (b : Byte) : Statement (.ldyZp b) := ⟨rfl, _, (rfl : shapeOf 0xA4 = some (.f2 .ldyZp)), b, rfl, rfl⟩
theorem ldyAbs (w : Addr) : Statement (.ldyAbs w) := ⟨rfl, _, (rfl : shapeOf 0xAC = some (.f3 .ldyAbs)), w, rfl, rfl⟩
theorem ldyZpxi (b : Byte) : Statement (.ldyZpxi b) := ⟨rfl, _, (rfl : shapeOf 0xB4 = some (.f2 .ldyZpxi)), b, rfl, rfl⟩
theorem ldyAbsx (w : Addr) : Statement (.ldyAbsx w) := ⟨rfl, _, (rfl : shapeOf 0xBC = some (.f3 .ldyAbsx)), w, rfl, rfl⟩
theorem incZp (b : Byte) : Statement (.incZp b) := ⟨rfl, _, (rfl : shapeOf 0xE6 = some (.f2 .incZp)), b, rfl, rfl⟩
theorem incAbs (w : Addr) : Statement (.incAbs w) := ⟨rfl, _, (rfl : shapeOf 0xEE = some (.f3 .incAbs)), w, rfl, rfl⟩
theorem incZpxi (b : Byte) : Statement (.incZpxi b) := ⟨rfl, _, (rfl : shapeOf 0xF6 = some (.f2 .incZpxi)), b, rfl, rfl⟩
theorem incAbsx (w : Addr) : Statement (.incAbsx w) := ⟨rfl, _, (rfl : shapeOf 0xFE = some (.f3 .incAbsx)), w, rfl, rfl⟩
theorem decZp (b : Byte) : Statement (.decZp b) := ⟨rfl, _, (rfl : shapeOf 0xC6 = some (.f2 .decZp)), b, rfl, rfl⟩
theorem decAbs (w : Addr) : Statement (.decAbs w) := ⟨rfl, _, (rfl : shapeOf 0xCE = some (.f3 .decAbs)), w, rfl, rfl⟩
theorem decZpxi (b : Byte) : Statement (.decZpxi b) := ⟨rfl, _, (rfl : shapeOf 0xD6 = some (.f2 .decZpxi)), b, rfl, rfl⟩
theorem decAbsx (w : Addr) : Statement (.decAbsx w) := ⟨rfl, _, (rfl : shapeOf 0xDE = some (.f3 .decAbsx)), w, rfl, rfl⟩
theorem staZpxd (b : Byte) : Statement (.staZpxd b) := ⟨rfl, _, (rfl : shapeOf 0x81 = some (.f2 .staZpxd)), b, rfl, rfl⟩
theorem staZp (b : Byte) : Statement (.staZp b) := ⟨rfl, _, (rfl : shapeOf 0x85 = some (.f2 .staZp)), b, rfl, rfl⟩
theorem staAbs (w : Addr) : Statement (.staAbs w) := ⟨rfl, _, (rfl : shapeOf 0x8D = some (.f3 .staAbs)), w, rfl, rfl⟩
theorem staIndy (b : Byte) : Statement (.staIndy b) := ⟨rfl, _, (rfl : shapeOf 0x91 = some (.f2 .staIndy)), b, rfl, rfl⟩
theorem staZpxi (b : Byte) : Statement (.staZpxi b) := ⟨rfl, _, (rfl : shapeOf 0x95 = some (.f2 .staZpxi)), b, rfl, rfl⟩
theorem staAbsy (w : Addr) : Statement (.staAbsy w) := ⟨rfl, _, (rfl : shapeOf 0x99 = some (.f3 .staAbsy)), w, rfl, rfl⟩
theorem staAbsx (w : Addr) : Statement (.staAbsx w) := ⟨rfl, _, (rfl : shapeOf 0x9D = some (.f3 .staAbsx)), w, rfl, rfl⟩
theorem stxZp (b : Byte) : Statement (.stxZp b) := ⟨rfl, _, (rfl : shapeOf 0x86 = some (.f2 .stxZp)), b, rfl, rfl⟩
theorem stxAbs (w : Addr) : Statement (.stxAbs w) := ⟨rfl, _, (rfl : shapeOf 0x8E = some (.f3 .stxAbs)), w, rfl, rfl⟩
theorem stxZpxi (b : Byte) : Statement (.stxZpxi b) := ⟨rfl, _, (rfl : shapeOf 0x96 = some (.f2 .stxZpxi)), b, rfl, rfl⟩
theorem styZp (b : Byte) : Statement (.styZp b) := ⟨rfl, _, (rfl : shapeOf 0x84 = some (.f2 .styZp)), b, rfl, rfl⟩
theorem styAbs (w : Addr) : Statement (.styAbs w) := ⟨rfl, _, (rfl : shapeOf 0x8C = some (.f3 .styAbs)), w, rfl, rfl⟩
theorem styZpxi (b : Byte) : Statement (.styZpxi b) := ⟨rfl, _, (rfl : shapeOf 0x94 = some (.f2 .styZpxi)), b, rfl, rfl⟩
theorem inx : Statement .inx := ⟨rfl, .f1 .inx, rfl, rfl, rfl⟩
theorem iny : Statement .iny := ⟨rfl, .f1 .iny, rfl, rfl, rfl⟩
theorem dex : Statement .dex := ⟨rfl, .f1 .dex, rfl, rfl, rfl⟩
theorem dey : Statement .dey := ⟨rfl, .f1 .dey, rfl, rfl, rfl⟩
theorem aslZp (b : Byte) : Statement (.aslZp b) := ⟨rfl, _, (rfl : shapeOf 0x06 = some (.f2 .aslZp)), b, rfl, rfl⟩
theorem aslAcc : Statement .aslAcc := ⟨rfl, .f1 .aslAcc, rfl, rfl, rfl⟩
theorem aslAbs (w : Addr) : Statement (.aslAbs w) := ⟨rfl, _, (rfl : shapeOf 0x0E = some (.f3 .aslAbs)), w, rfl, rfl⟩
theorem aslZpxi (b : Byte) : Statement (.aslZpxi b) := ⟨rfl, _, (rfl : shapeOf 0x16 = some (.f2 .aslZpxi)), b, rfl, rfl⟩
theorem aslAbsx (w : Addr) : Statement (.aslAbsx w) := ⟨rfl, _, (rfl : shapeOf 0x1E = some (.f3 .aslAbsx)), w, rfl, rfl⟩
theorem lsrZp (b : Byte) : Statement (.lsrZp b) := ⟨rfl, _, (rfl : shapeOf 0x46 = some (.f2 .lsrZp)), b, rfl, rfl⟩
theorem lsrAcc : Statement .lsrAcc := ⟨rfl, .f1 .lsrAcc, rfl, rfl, rfl⟩
theorem lsrAbs (w : Addr) : Statement (.lsrAbs w) := ⟨rfl, _, (rfl : shapeOf 0x4E = some (.f3 .lsrAbs)), w, rfl, rfl⟩
theorem lsrZpxi (b : Byte) : Statement (.lsrZpxi b) := ⟨rfl, _, (rfl : shapeOf 0x56 = some (.f2 .lsrZpxi)), b, rfl, rfl⟩
theorem lsrAbsx (w : Addr) : Statement (.lsrAbsx w) := ⟨rfl, _, (rfl : shapeOf 0x5E = some (.f3 .lsrAbsx)), w, rfl, rfl⟩
theorem rolZp (b : Byte) : Statement (.rolZp b) := ⟨rfl, _, (rfl : shapeOf 0x26 = some (.f2 .rolZp)), b, rfl, rfl⟩
theorem rolAcc : Statement .rolAcc := ⟨rfl, .f1 .rolAcc, rfl, rfl, rfl⟩
theorem rolAbs (w : Addr) : Statement (.rolAbs w) := ⟨rfl, _, (rfl : shapeOf 0x2E = some (.f3 .rolAbs)), w, rfl, rfl⟩
theorem rolZpxi (b : Byte) : Statement (.rolZpxi b) := ⟨rfl, _, (rfl : shapeOf 0x36 = some (.f2 .rolZpxi)), b, rfl, rfl⟩
theorem rolAbsx (w : Addr) : Statement (.rolAbsx w) := ⟨rfl, _, (rfl : shapeOf 0x3E = some (.f3 .rolAbsx)), w, rfl, rfl⟩
theorem rorZp (b : Byte) : Statement (.rorZp b) := ⟨rfl, _, (rfl : shapeOf 0x66 = some (.f2 .rorZp)), b, rfl, rfl⟩
theorem rorAcc : Statement .rorAcc := ⟨rfl, .f1 .rorAcc, rfl, rfl, rfl⟩
theorem rorAbs (w : Addr) : Statement (.rorAbs w) := ⟨rfl, _, (rfl : shapeOf 0x6E = some (.f3 .rorAbs)), w, rfl, rfl⟩
theorem rorZpxi (b : Byte) : Statement (.rorZpxi b) := ⟨rfl, _, (rfl : shapeOf 0x76 = some (.f2 .rorZpxi)), b, rfl, rfl⟩
theorem rorAbsx (w : Addr) : Statement (.rorAbsx w) := ⟨rfl, _, (rfl : shapeOf 0x7E = some (.f3 .rorAbsx)), w, rfl, rfl⟩
theorem bitZp (b : Byte) : Statement (.bitZp b) := ⟨rfl, _, (rfl : shapeOf 0x24 = some (.f2 .bitZp)), b, rfl, rfl⟩
theorem bitAbs (w : Addr) : Statement (.bitAbs w) := ⟨rfl, _, (rfl : shapeOf 0x2C = some (.f3 .bitAbs)), w, rfl, rfl⟩
theorem tax : Statement .tax := ⟨rfl, .f1 .tax, rfl, rfl, rfl⟩
theorem tay : Statement .tay := ⟨rfl, .f1 .tay, rfl, rfl, rfl⟩
theorem txa : Statement .txa := ⟨rfl, .f1 .txa, rfl, rfl, rfl⟩
theorem tya : Statement .tya := ⟨rfl, .f1 .tya, rfl, rfl, rfl⟩
theorem tsx : Statement .tsx := ⟨rfl, .f1 .tsx, rfl, rfl, rfl⟩
theorem txs : Statement .txs := ⟨rfl, .f1 .txs, rfl, rfl, rfl⟩
theorem clc : Statement .clc := ⟨rfl, .f1 .clc, rfl, rfl, rfl⟩
theorem cld : Statement .cld := ⟨rfl, .f1 .cld, rfl, rfl, rfl⟩
theorem cli : Statement .cli := ⟨rfl, .f1 .cli, rfl, rfl, rfl⟩
theorem clv : Statement .clv := ⟨rfl, .f1 .clv, rfl, rfl, rfl⟩
theorem sec : Statement .sec := ⟨rfl, .f1 .sec, rfl, rfl, rfl⟩
theorem sed : Statement .sed := ⟨rfl, .f1 .sed, rfl, rfl, rfl⟩
theorem sei : Statement .sei := ⟨rfl, .f1 .sei, rfl, rfl, rfl⟩
theorem nop : Statement .nop := ⟨rfl, .f1 .nop, rfl, rfl, rfl⟩
theorem bcc (d : Byte) : Statement (.bcc d) := ⟨rfl, _, (rfl : shapeOf 0x90 = some (.f2 .bcc)), d, rfl, rfl⟩
theorem bcs (d : Byte) : Statement (.bcs d) := ⟨rfl, _, (rfl : shapeOf 0xB0 = some (.f2 .bcs)), d, rfl, rfl⟩
theorem beq (d : Byte) : Statement (.beq d) := ⟨rfl, _, (rfl : shapeOf 0xF0 = some (.f2 .beq)), d, rfl, rfl⟩
theorem bmi (d : Byte) : Statement (.bmi d) := ⟨rfl, _, (rfl : shapeOf 0x30 = some (.f2 .bmi)), d, rfl, rfl⟩
theorem bne (d : Byte) : Statement (.bne d) := ⟨rfl, _, (rfl : shapeOf 0xD0 = some (.f2 .bne)), d, rfl, rfl⟩
theorem bpl (d : Byte) : Statement (.bpl d) := ⟨rfl, _, (rfl : shapeOf 0x10 = some (.f2 .bpl)), d, rfl, rfl⟩
theorem bvc (d : Byte) : Statement (.bvc d) := ⟨rfl, _, (rfl : shapeOf 0x50 = some (.f2 .bvc)), d, rfl, rfl⟩
theorem bvs (d : Byte) : Statement (.bvs d) := ⟨rfl, _, (rfl : shapeOf 0x70 = some (.f2 .bvs)), d, rfl, rfl⟩
theorem jmpAbs (w : Addr) : Statement (.jmpAbs w) := ⟨rfl, _, (rfl : shapeOf 0x4C = some (.f3 .jmpAbs)), w, rfl, rfl⟩
theorem jmpInd (p : Addr) : Statement (.jmpInd p) := ⟨rfl, _, (rfl : shapeOf 0x6C = some (.f3 .jmpInd)), p, rfl, rfl⟩
theorem jsr (w : Addr) : Statement (.jsr w) := ⟨rfl, _, (rfl : shapeOf 0x20 = some (.f3 .jsr)), w, rfl, rfl⟩
theorem rts : Statement .rts := ⟨rfl, .f1 .rts, rfl, rfl, rfl⟩
theorem pha : Statement .pha := ⟨rfl, .f1 .pha, rfl, rfl, rfl⟩
theorem php : Statement .php := ⟨rfl, .f1 .php, rfl, rfl, rfl⟩
theorem pla : Statement .pla := ⟨rfl, .f1 .pla, rfl, rfl, rfl⟩
theorem plp : Statement .plp := ⟨rfl, .f1 .plp, rfl, rfl, rfl⟩
theorem brk : Statement .brk := ⟨rfl, .f1 .brk, rfl, rfl, rfl⟩
theorem rti : Statement .rti := ⟨rfl, .f1 .rti, rfl, rfl, rfl⟩

end Sys2Proof.Laws.TableRow

namespace Sys2Proof

/-- Every instruction's opcode byte is in the map, with the shape that spells the instruction (R66). -/
theorem shapeOf_opcode (i : Instr) : ∃ sh, shapeOf i.opcode = some sh ∧ sh.spells i :=
  match i with
  | .adcZpxd b => (Laws.TableRow.adcZpxd b).2
  | .adcZp b => (Laws.TableRow.adcZp b).2
  | .adcImm v => (Laws.TableRow.adcImm v).2
  | .adcAbs w => (Laws.TableRow.adcAbs w).2
  | .adcIndy b => (Laws.TableRow.adcIndy b).2
  | .adcZpxi b => (Laws.TableRow.adcZpxi b).2
  | .adcAbsy w => (Laws.TableRow.adcAbsy w).2
  | .adcAbsx w => (Laws.TableRow.adcAbsx w).2
  | .sbcZpxd b => (Laws.TableRow.sbcZpxd b).2
  | .sbcZp b => (Laws.TableRow.sbcZp b).2
  | .sbcImm v => (Laws.TableRow.sbcImm v).2
  | .sbcAbs w => (Laws.TableRow.sbcAbs w).2
  | .sbcIndy b => (Laws.TableRow.sbcIndy b).2
  | .sbcZpxi b => (Laws.TableRow.sbcZpxi b).2
  | .sbcAbsy w => (Laws.TableRow.sbcAbsy w).2
  | .sbcAbsx w => (Laws.TableRow.sbcAbsx w).2
  | .cmpZpxd b => (Laws.TableRow.cmpZpxd b).2
  | .cmpZp b => (Laws.TableRow.cmpZp b).2
  | .cmpImm v => (Laws.TableRow.cmpImm v).2
  | .cmpAbs w => (Laws.TableRow.cmpAbs w).2
  | .cmpIndy b => (Laws.TableRow.cmpIndy b).2
  | .cmpZpxi b => (Laws.TableRow.cmpZpxi b).2
  | .cmpAbsy w => (Laws.TableRow.cmpAbsy w).2
  | .cmpAbsx w => (Laws.TableRow.cmpAbsx w).2
  | .cpxImm v => (Laws.TableRow.cpxImm v).2
  | .cpxZp b => (Laws.TableRow.cpxZp b).2
  | .cpxAbs w => (Laws.TableRow.cpxAbs w).2
  | .cpyImm v => (Laws.TableRow.cpyImm v).2
  | .cpyZp b => (Laws.TableRow.cpyZp b).2
  | .cpyAbs w => (Laws.TableRow.cpyAbs w).2
  | .andZpxd b => (Laws.TableRow.andZpxd b).2
  | .andZp b => (Laws.TableRow.andZp b).2
  | .andImm v => (Laws.TableRow.andImm v).2
  | .andAbs w => (Laws.TableRow.andAbs w).2
  | .andIndy b => (Laws.TableRow.andIndy b).2
  | .andZpxi b => (Laws.TableRow.andZpxi b).2
  | .andAbsy w => (Laws.TableRow.andAbsy w).2
  | .andAbsx w => (Laws.TableRow.andAbsx w).2
  | .oraZpxd b => (Laws.TableRow.oraZpxd b).2
  | .oraZp b => (Laws.TableRow.oraZp b).2
  | .oraImm v => (Laws.TableRow.oraImm v).2
  | .oraAbs w => (Laws.TableRow.oraAbs w).2
  | .oraIndy b => (Laws.TableRow.oraIndy b).2
  | .oraZpxi b => (Laws.TableRow.oraZpxi b).2
  | .oraAbsy w => (Laws.TableRow.oraAbsy w).2
  | .oraAbsx w => (Laws.TableRow.oraAbsx w).2
  | .eorZpxd b => (Laws.TableRow.eorZpxd b).2
  | .eorZp b => (Laws.TableRow.eorZp b).2
  | .eorImm v => (Laws.TableRow.eorImm v).2
  | .eorAbs w => (Laws.TableRow.eorAbs w).2
  | .eorIndy b => (Laws.TableRow.eorIndy b).2
  | .eorZpxi b => (Laws.TableRow.eorZpxi b).2
  | .eorAbsy w => (Laws.TableRow.eorAbsy w).2
  | .eorAbsx w => (Laws.TableRow.eorAbsx w).2
  | .ldaZpxd b => (Laws.TableRow.ldaZpxd b).2
  | .ldaZp b => (Laws.TableRow.ldaZp b).2
  | .ldaImm v => (Laws.TableRow.ldaImm v).2
  | .ldaAbs w => (Laws.TableRow.ldaAbs w).2
  | .ldaIndy b => (Laws.TableRow.ldaIndy b).2
  | .ldaZpxi b => (Laws.TableRow.ldaZpxi b).2
  | .ldaAbsy w => (Laws.TableRow.ldaAbsy w).2
  | .ldaAbsx w => (Laws.TableRow.ldaAbsx w).2
  | .ldxImm v => (Laws.TableRow.ldxImm v).2
  | .ldxZp b => (Laws.TableRow.ldxZp b).2
  | .ldxAbs w => (Laws.TableRow.ldxAbs w).2
  | .ldxZpxi b => (Laws.TableRow.ldxZpxi b).2
  | .ldxAbsx w => (Laws.TableRow.ldxAbsx w).2
  | .ldyImm v => (Laws.TableRow.ldyImm v).2
  | .ldyZp b => (Laws.TableRow.ldyZp b).2
  | .ldyAbs w => (Laws.TableRow.ldyAbs w).2
  | .ldyZpxi b => (Laws.TableRow.ldyZpxi b).2
  | .ldyAbsx w => (Laws.TableRow.ldyAbsx w).2
  | .incZp b => (Laws.TableRow.incZp b).2
  | .incAbs w => (Laws.TableRow.incAbs w).2
  | .incZpxi b => (Laws.TableRow.incZpxi b).2
  | .incAbsx w => (Laws.TableRow.incAbsx w).2
  | .decZp b => (Laws.TableRow.decZp b).2
  | .decAbs w => (Laws.TableRow.decAbs w).2
  | .decZpxi b => (Laws.TableRow.decZpxi b).2
  | .decAbsx w => (Laws.TableRow.decAbsx w).2
  | .staZpxd b => (Laws.TableRow.staZpxd b).2
  | .staZp b => (Laws.TableRow.staZp b).2
  | .staAbs w => (Laws.TableRow.staAbs w).2
  | .staIndy b => (Laws.TableRow.staIndy b).2
  | .staZpxi b => (Laws.TableRow.staZpxi b).2
  | .staAbsy w => (Laws.TableRow.staAbsy w).2
  | .staAbsx w => (Laws.TableRow.staAbsx w).2
  | .stxZp b => (Laws.TableRow.stxZp b).2
  | .stxAbs w => (Laws.TableRow.stxAbs w).2
  | .stxZpxi b => (Laws.TableRow.stxZpxi b).2
  | .styZp b => (Laws.TableRow.styZp b).2
  | .styAbs w => (Laws.TableRow.styAbs w).2
  | .styZpxi b => (Laws.TableRow.styZpxi b).2
  | .inx => Laws.TableRow.inx.2
  | .iny => Laws.TableRow.iny.2
  | .dex => Laws.TableRow.dex.2
  | .dey => Laws.TableRow.dey.2
  | .aslZp b => (Laws.TableRow.aslZp b).2
  | .aslAcc => Laws.TableRow.aslAcc.2
  | .aslAbs w => (Laws.TableRow.aslAbs w).2
  | .aslZpxi b => (Laws.TableRow.aslZpxi b).2
  | .aslAbsx w => (Laws.TableRow.aslAbsx w).2
  | .lsrZp b => (Laws.TableRow.lsrZp b).2
  | .lsrAcc => Laws.TableRow.lsrAcc.2
  | .lsrAbs w => (Laws.TableRow.lsrAbs w).2
  | .lsrZpxi b => (Laws.TableRow.lsrZpxi b).2
  | .lsrAbsx w => (Laws.TableRow.lsrAbsx w).2
  | .rolZp b => (Laws.TableRow.rolZp b).2
  | .rolAcc => Laws.TableRow.rolAcc.2
  | .rolAbs w => (Laws.TableRow.rolAbs w).2
  | .rolZpxi b => (Laws.TableRow.rolZpxi b).2
  | .rolAbsx w => (Laws.TableRow.rolAbsx w).2
  | .rorZp b => (Laws.TableRow.rorZp b).2
  | .rorAcc => Laws.TableRow.rorAcc.2
  | .rorAbs w => (Laws.TableRow.rorAbs w).2
  | .rorZpxi b => (Laws.TableRow.rorZpxi b).2
  | .rorAbsx w => (Laws.TableRow.rorAbsx w).2
  | .bitZp b => (Laws.TableRow.bitZp b).2
  | .bitAbs w => (Laws.TableRow.bitAbs w).2
  | .tax => Laws.TableRow.tax.2
  | .tay => Laws.TableRow.tay.2
  | .txa => Laws.TableRow.txa.2
  | .tya => Laws.TableRow.tya.2
  | .tsx => Laws.TableRow.tsx.2
  | .txs => Laws.TableRow.txs.2
  | .clc => Laws.TableRow.clc.2
  | .cld => Laws.TableRow.cld.2
  | .cli => Laws.TableRow.cli.2
  | .clv => Laws.TableRow.clv.2
  | .sec => Laws.TableRow.sec.2
  | .sed => Laws.TableRow.sed.2
  | .sei => Laws.TableRow.sei.2
  | .nop => Laws.TableRow.nop.2
  | .bcc d => (Laws.TableRow.bcc d).2
  | .bcs d => (Laws.TableRow.bcs d).2
  | .beq d => (Laws.TableRow.beq d).2
  | .bmi d => (Laws.TableRow.bmi d).2
  | .bne d => (Laws.TableRow.bne d).2
  | .bpl d => (Laws.TableRow.bpl d).2
  | .bvc d => (Laws.TableRow.bvc d).2
  | .bvs d => (Laws.TableRow.bvs d).2
  | .jmpAbs w => (Laws.TableRow.jmpAbs w).2
  | .jmpInd p => (Laws.TableRow.jmpInd p).2
  | .jsr w => (Laws.TableRow.jsr w).2
  | .rts => Laws.TableRow.rts.2
  | .pha => Laws.TableRow.pha.2
  | .php => Laws.TableRow.php.2
  | .pla => Laws.TableRow.pla.2
  | .plp => Laws.TableRow.plp.2
  | .brk => Laws.TableRow.brk.2
  | .rti => Laws.TableRow.rti.2

end Sys2Proof
end

