-- ==== Sys2Proof/Tests/Slice0.lean ====
section
/-! SUPPORT. The model's own tests: what well-formedness refuses, what the decoder makes of words written out from the
spec's encodings, one step on vectors of 95_test_vectors.md (expected values copied from the spec, never from the
model), and for each obligation with hypotheses a state and operands that meet them. -/

namespace Sys2Proof.Tests

open Sys2Proof Sys2Proof.Machine

/-! ### Well-formedness: a term that each check refuses -/

/-- R63: a relative displacement is no operand of the operand-consuming group. -/
theorem test_wellFormed_group : Form.modeOfGroup ⟨.lda, .rel 0x10⟩ = false ∧ Form.wellFormed ⟨.lda, .rel 0x10⟩ = false := by
  decide

/-- R64: the implied group has no zero-page operand. -/
theorem test_wellFormed_implied : Form.modeOfGroup ⟨.jsr, .zp 0x10⟩ = false ∧ Form.wellFormed ⟨.jsr, .zp 0x10⟩ = false := by
  decide

/-- R66, R99: `STA` with `IMM` belongs to the group but has no opcode (0x89 is undefined). -/
theorem test_wellFormed_listed : Form.modeOfGroup ⟨.sta, .imm 0x55⟩ = true ∧ Form.listed ⟨.sta, .imm 0x55⟩ = false ∧
    Form.wellFormed ⟨.sta, .imm 0x55⟩ = false := by
  decide

/-- R66: `STA` with `ZP` passes. -/
theorem test_wellFormed_passes : Form.wellFormed ⟨.sta, .zp 0x55⟩ = true := by decide

/-! ### Decoding: every row of the opcode table, from the bytes of R60 and R66; operand bytes 12 and 34, high first -/

/-- `ADC` (R110). -/
theorem test_decode_adc :
    decodeInstr [0x61, 0x12] = some (.adcZpxd 0x12) ∧
    decodeInstr [0x65, 0x12] = some (.adcZp 0x12) ∧
    decodeInstr [0x69, 0x12] = some (.adcImm 0x12) ∧
    decodeInstr [0x6D, 0x12, 0x34] = some (.adcAbs 0x1234) ∧
    decodeInstr [0x71, 0x12] = some (.adcIndy 0x12) ∧
    decodeInstr [0x75, 0x12] = some (.adcZpxi 0x12) ∧
    decodeInstr [0x79, 0x12, 0x34] = some (.adcAbsy 0x1234) ∧
    decodeInstr [0x7D, 0x12, 0x34] = some (.adcAbsx 0x1234) := by decide

/-- `SBC` (R111). -/
theorem test_decode_sbc :
    decodeInstr [0xE1, 0x12] = some (.sbcZpxd 0x12) ∧
    decodeInstr [0xE5, 0x12] = some (.sbcZp 0x12) ∧
    decodeInstr [0xE9, 0x12] = some (.sbcImm 0x12) ∧
    decodeInstr [0xED, 0x12, 0x34] = some (.sbcAbs 0x1234) ∧
    decodeInstr [0xF1, 0x12] = some (.sbcIndy 0x12) ∧
    decodeInstr [0xF5, 0x12] = some (.sbcZpxi 0x12) ∧
    decodeInstr [0xF9, 0x12, 0x34] = some (.sbcAbsy 0x1234) ∧
    decodeInstr [0xFD, 0x12, 0x34] = some (.sbcAbsx 0x1234) := by decide

/-- `CMP` (R113). -/
theorem test_decode_cmp :
    decodeInstr [0xC1, 0x12] = some (.cmpZpxd 0x12) ∧
    decodeInstr [0xC5, 0x12] = some (.cmpZp 0x12) ∧
    decodeInstr [0xC9, 0x12] = some (.cmpImm 0x12) ∧
    decodeInstr [0xCD, 0x12, 0x34] = some (.cmpAbs 0x1234) ∧
    decodeInstr [0xD1, 0x12] = some (.cmpIndy 0x12) ∧
    decodeInstr [0xD5, 0x12] = some (.cmpZpxi 0x12) ∧
    decodeInstr [0xD9, 0x12, 0x34] = some (.cmpAbsy 0x1234) ∧
    decodeInstr [0xDD, 0x12, 0x34] = some (.cmpAbsx 0x1234) := by decide

/-- `CPX` (R114). -/
theorem test_decode_cpx :
    decodeInstr [0xE0, 0x12] = some (.cpxImm 0x12) ∧
    decodeInstr [0xE4, 0x12] = some (.cpxZp 0x12) ∧
    decodeInstr [0xEC, 0x12, 0x34] = some (.cpxAbs 0x1234) := by decide

/-- `CPY` (R115). -/
theorem test_decode_cpy :
    decodeInstr [0xC0, 0x12] = some (.cpyImm 0x12) ∧
    decodeInstr [0xC4, 0x12] = some (.cpyZp 0x12) ∧
    decodeInstr [0xCC, 0x12, 0x34] = some (.cpyAbs 0x1234) := by decide

/-- `AND` (R120). -/
theorem test_decode_and :
    decodeInstr [0x21, 0x12] = some (.andZpxd 0x12) ∧
    decodeInstr [0x25, 0x12] = some (.andZp 0x12) ∧
    decodeInstr [0x29, 0x12] = some (.andImm 0x12) ∧
    decodeInstr [0x2D, 0x12, 0x34] = some (.andAbs 0x1234) ∧
    decodeInstr [0x31, 0x12] = some (.andIndy 0x12) ∧
    decodeInstr [0x35, 0x12] = some (.andZpxi 0x12) ∧
    decodeInstr [0x39, 0x12, 0x34] = some (.andAbsy 0x1234) ∧
    decodeInstr [0x3D, 0x12, 0x34] = some (.andAbsx 0x1234) := by decide

/-- `ORA` (R121). -/
theorem test_decode_ora :
    decodeInstr [0x01, 0x12] = some (.oraZpxd 0x12) ∧
    decodeInstr [0x05, 0x12] = some (.oraZp 0x12) ∧
    decodeInstr [0x09, 0x12] = some (.oraImm 0x12) ∧
    decodeInstr [0x0D, 0x12, 0x34] = some (.oraAbs 0x1234) ∧
    decodeInstr [0x11, 0x12] = some (.oraIndy 0x12) ∧
    decodeInstr [0x15, 0x12] = some (.oraZpxi 0x12) ∧
    decodeInstr [0x19, 0x12, 0x34] = some (.oraAbsy 0x1234) ∧
    decodeInstr [0x1D, 0x12, 0x34] = some (.oraAbsx 0x1234) := by decide

/-- `EOR` (R122). -/
theorem test_decode_eor :
    decodeInstr [0x41, 0x12] = some (.eorZpxd 0x12) ∧
    decodeInstr [0x45, 0x12] = some (.eorZp 0x12) ∧
    decodeInstr [0x49, 0x12] = some (.eorImm 0x12) ∧
    decodeInstr [0x4D, 0x12, 0x34] = some (.eorAbs 0x1234) ∧
    decodeInstr [0x51, 0x12] = some (.eorIndy 0x12) ∧
    decodeInstr [0x55, 0x12] = some (.eorZpxi 0x12) ∧
    decodeInstr [0x59, 0x12, 0x34] = some (.eorAbsy 0x1234) ∧
    decodeInstr [0x5D, 0x12, 0x34] = some (.eorAbsx 0x1234) := by decide

/-- `LDA` (R123). -/
theorem test_decode_lda :
    decodeInstr [0xA1, 0x12] = some (.ldaZpxd 0x12) ∧
    decodeInstr [0xA5, 0x12] = some (.ldaZp 0x12) ∧
    decodeInstr [0xA9, 0x12] = some (.ldaImm 0x12) ∧
    decodeInstr [0xAD, 0x12, 0x34] = some (.ldaAbs 0x1234) ∧
    decodeInstr [0xB1, 0x12] = some (.ldaIndy 0x12) ∧
    decodeInstr [0xB5, 0x12] = some (.ldaZpxi 0x12) ∧
    decodeInstr [0xB9, 0x12, 0x34] = some (.ldaAbsy 0x1234) ∧
    decodeInstr [0xBD, 0x12, 0x34] = some (.ldaAbsx 0x1234) := by decide

/-- `LDX` (R124). -/
theorem test_decode_ldx :
    decodeInstr [0xA2, 0x12] = some (.ldxImm 0x12) ∧
    decodeInstr [0xA6, 0x12] = some (.ldxZp 0x12) ∧
    decodeInstr [0xAE, 0x12, 0x34] = some (.ldxAbs 0x1234) ∧
    decodeInstr [0xB6, 0x12] = some (.ldxZpxi 0x12) ∧
    decodeInstr [0xBE, 0x12, 0x34] = some (.ldxAbsx 0x1234) := by decide

/-- `LDY` (R125). -/
theorem test_decode_ldy :
    decodeInstr [0xA0, 0x12] = some (.ldyImm 0x12) ∧
    decodeInstr [0xA4, 0x12] = some (.ldyZp 0x12) ∧
    decodeInstr [0xAC, 0x12, 0x34] = some (.ldyAbs 0x1234) ∧
    decodeInstr [0xB4, 0x12] = some (.ldyZpxi 0x12) ∧
    decodeInstr [0xBC, 0x12, 0x34] = some (.ldyAbsx 0x1234) := by decide

/-- `INC` (R126). -/
theorem test_decode_inc :
    decodeInstr [0xE6, 0x12] = some (.incZp 0x12) ∧
    decodeInstr [0xEE, 0x12, 0x34] = some (.incAbs 0x1234) ∧
    decodeInstr [0xF6, 0x12] = some (.incZpxi 0x12) ∧
    decodeInstr [0xFE, 0x12, 0x34] = some (.incAbsx 0x1234) := by decide

/-- `DEC` (R127). -/
theorem test_decode_dec :
    decodeInstr [0xC6, 0x12] = some (.decZp 0x12) ∧
    decodeInstr [0xCE, 0x12, 0x34] = some (.decAbs 0x1234) ∧
    decodeInstr [0xD6, 0x12] = some (.decZpxi 0x12) ∧
    decodeInstr [0xDE, 0x12, 0x34] = some (.decAbsx 0x1234) := by decide

/-- `STA` (R128). -/
theorem test_decode_sta :
    decodeInstr [0x81, 0x12] = some (.staZpxd 0x12) ∧
    decodeInstr [0x85, 0x12] = some (.staZp 0x12) ∧
    decodeInstr [0x8D, 0x12, 0x34] = some (.staAbs 0x1234) ∧
    decodeInstr [0x91, 0x12] = some (.staIndy 0x12) ∧
    decodeInstr [0x95, 0x12] = some (.staZpxi 0x12) ∧
    decodeInstr [0x99, 0x12, 0x34] = some (.staAbsy 0x1234) ∧
    decodeInstr [0x9D, 0x12, 0x34] = some (.staAbsx 0x1234) := by decide

/-- `STX` (R129). -/
theorem test_decode_stx :
    decodeInstr [0x86, 0x12] = some (.stxZp 0x12) ∧
    decodeInstr [0x8E, 0x12, 0x34] = some (.stxAbs 0x1234) ∧
    decodeInstr [0x96, 0x12] = some (.stxZpxi 0x12) := by decide

/-- `STY` (R130). -/
theorem test_decode_sty :
    decodeInstr [0x84, 0x12] = some (.styZp 0x12) ∧
    decodeInstr [0x8C, 0x12, 0x34] = some (.styAbs 0x1234) ∧
    decodeInstr [0x94, 0x12] = some (.styZpxi 0x12) := by decide

/-- `INX` (R131). -/
theorem test_decode_inx :
    decodeInstr [0xE8] = some .inx := by decide

/-- `INY` (R132). -/
theorem test_decode_iny :
    decodeInstr [0xC8] = some .iny := by decide

/-- `DEX` (R133). -/
theorem test_decode_dex :
    decodeInstr [0xCA] = some .dex := by decide

/-- `DEY` (R134). -/
theorem test_decode_dey :
    decodeInstr [0x88] = some .dey := by decide

/-- `ASL` (R140). -/
theorem test_decode_asl :
    decodeInstr [0x06, 0x12] = some (.aslZp 0x12) ∧
    decodeInstr [0x0A] = some .aslAcc ∧
    decodeInstr [0x0E, 0x12, 0x34] = some (.aslAbs 0x1234) ∧
    decodeInstr [0x16, 0x12] = some (.aslZpxi 0x12) ∧
    decodeInstr [0x1E, 0x12, 0x34] = some (.aslAbsx 0x1234) := by decide

/-- `LSR` (R141). -/
theorem test_decode_lsr :
    decodeInstr [0x46, 0x12] = some (.lsrZp 0x12) ∧
    decodeInstr [0x4A] = some .lsrAcc ∧
    decodeInstr [0x4E, 0x12, 0x34] = some (.lsrAbs 0x1234) ∧
    decodeInstr [0x56, 0x12] = some (.lsrZpxi 0x12) ∧
    decodeInstr [0x5E, 0x12, 0x34] = some (.lsrAbsx 0x1234) := by decide

/-- `ROL` (R142). -/
theorem test_decode_rol :
    decodeInstr [0x26, 0x12] = some (.rolZp 0x12) ∧
    decodeInstr [0x2A] = some .rolAcc ∧
    decodeInstr [0x2E, 0x12, 0x34] = some (.rolAbs 0x1234) ∧
    decodeInstr [0x36, 0x12] = some (.rolZpxi 0x12) ∧
    decodeInstr [0x3E, 0x12, 0x34] = some (.rolAbsx 0x1234) := by decide

/-- `ROR` (R143). -/
theorem test_decode_ror :
    decodeInstr [0x66, 0x12] = some (.rorZp 0x12) ∧
    decodeInstr [0x6A] = some .rorAcc ∧
    decodeInstr [0x6E, 0x12, 0x34] = some (.rorAbs 0x1234) ∧
    decodeInstr [0x76, 0x12] = some (.rorZpxi 0x12) ∧
    decodeInstr [0x7E, 0x12, 0x34] = some (.rorAbsx 0x1234) := by decide

/-- `BIT` (R144). -/
theorem test_decode_bit :
    decodeInstr [0x24, 0x12] = some (.bitZp 0x12) ∧
    decodeInstr [0x2C, 0x12, 0x34] = some (.bitAbs 0x1234) := by decide

/-- `TAX` (R150). -/
theorem test_decode_tax :
    decodeInstr [0xAA] = some .tax := by decide

/-- `TAY` (R151). -/
theorem test_decode_tay :
    decodeInstr [0xA8] = some .tay := by decide

/-- `TXA` (R152). -/
theorem test_decode_txa :
    decodeInstr [0x8A] = some .txa := by decide

/-- `TYA` (R153). -/
theorem test_decode_tya :
    decodeInstr [0x98] = some .tya := by decide

/-- `TSX` (R154). -/
theorem test_decode_tsx :
    decodeInstr [0xBA] = some .tsx := by decide

/-- `TXS` (R155). -/
theorem test_decode_txs :
    decodeInstr [0x9A] = some .txs := by decide

/-- `CLC` (R156). -/
theorem test_decode_clc :
    decodeInstr [0x18] = some .clc := by decide

/-- `CLD` (R157). -/
theorem test_decode_cld :
    decodeInstr [0xD8] = some .cld := by decide

/-- `CLI` (R158). -/
theorem test_decode_cli :
    decodeInstr [0x58] = some .cli := by decide

/-- `CLV` (R159). -/
theorem test_decode_clv :
    decodeInstr [0xB8] = some .clv := by decide

/-- `SEC` (R160). -/
theorem test_decode_sec :
    decodeInstr [0x38] = some .sec := by decide

/-- `SED` (R161). -/
theorem test_decode_sed :
    decodeInstr [0xF8] = some .sed := by decide

/-- `SEI` (R162). -/
theorem test_decode_sei :
    decodeInstr [0x78] = some .sei := by decide

/-- `NOP` (R163). -/
theorem test_decode_nop :
    decodeInstr [0xEA] = some .nop := by decide

/-- `BCC` (R171). -/
theorem test_decode_bcc :
    decodeInstr [0x90, 0x12] = some (.bcc 0x12) := by decide

/-- `BCS` (R172). -/
theorem test_decode_bcs :
    decodeInstr [0xB0, 0x12] = some (.bcs 0x12) := by decide

/-- `BEQ` (R173). -/
theorem test_decode_beq :
    decodeInstr [0xF0, 0x12] = some (.beq 0x12) := by decide

/-- `BMI` (R174). -/
theorem test_decode_bmi :
    decodeInstr [0x30, 0x12] = some (.bmi 0x12) := by decide

/-- `BNE` (R175). -/
theorem test_decode_bne :
    decodeInstr [0xD0, 0x12] = some (.bne 0x12) := by decide

/-- `BPL` (R176). -/
theorem test_decode_bpl :
    decodeInstr [0x10, 0x12] = some (.bpl 0x12) := by decide

/-- `BVC` (R177). -/
theorem test_decode_bvc :
    decodeInstr [0x50, 0x12] = some (.bvc 0x12) := by decide

/-- `BVS` (R178). -/
theorem test_decode_bvs :
    decodeInstr [0x70, 0x12] = some (.bvs 0x12) := by decide

/-- `JMP` (R179). -/
theorem test_decode_jmp :
    decodeInstr [0x4C, 0x12, 0x34] = some (.jmpAbs 0x1234) ∧
    decodeInstr [0x6C, 0x12, 0x34] = some (.jmpInd 0x1234) := by decide

/-- `JSR` (R180). -/
theorem test_decode_jsr :
    decodeInstr [0x20, 0x12, 0x34] = some (.jsr 0x1234) := by decide

/-- `RTS` (R181). -/
theorem test_decode_rts :
    decodeInstr [0x60] = some .rts := by decide

/-- `PHA` (R194). -/
theorem test_decode_pha :
    decodeInstr [0x48] = some .pha := by decide

/-- `PHP` (R195). -/
theorem test_decode_php :
    decodeInstr [0x08] = some .php := by decide

/-- `PLA` (R196). -/
theorem test_decode_pla :
    decodeInstr [0x68] = some .pla := by decide

/-- `PLP` (R197). -/
theorem test_decode_plp :
    decodeInstr [0x28] = some .plp := by decide

/-- `BRK` (R198). -/
theorem test_decode_brk :
    decodeInstr [0x00] = some .brk := by decide

/-- `RTI` (R199). -/
theorem test_decode_rti :
    decodeInstr [0x40] = some .rti := by decide

/-! ### Decoding: one word of each family written out bit by bit (R61: fields 7:5, 4:2, 1:0), and the rejections -/

/-- 011 111 01: `ADC`, group 7 (R63: `ABSX`), then the high and the low byte of the operand (R44). -/
theorem test_bits_arithmetic : decodeInstr [0b01111101, 0b00010010, 0b00110100] = some (.adcAbsx 0b0001001000110100) := by
  decide

/-- 100 100 01: `STA`, group 4 (`INDY`). -/
theorem test_bits_store : decodeInstr [0b10010001, 0b11110000] = some (.staIndy 0b11110000) := by decide

/-- 011 010 10: `ROR`, group 2 with bit 0 clear (`ACC`). -/
theorem test_bits_shift : decodeInstr [0b01101010] = some .rorAcc := by decide

/-- 100 110 10: `TXS`. -/
theorem test_bits_transfer : decodeInstr [0b10011010] = some .txs := by decide

/-- 110 100 00: `BNE`, then the displacement byte, here -7 (R94). -/
theorem test_bits_branch : decodeInstr [0b11010000, 0b11111001] = some (.bne 0b11111001) := by decide

/-- 011 011 00: `JMP`, whose group bits say `ABS` but whose form is `IND` (R64). -/
theorem test_bits_jump : decodeInstr [0b01101100, 0b00110000, 0b11111111] = some (.jmpInd 0b0011000011111111) := by decide

/-- 010 000 00: `RTI`. -/
theorem test_bits_stack : decodeInstr [0b01000000] = some .rti := by decide

/-- R67: the first and the last undefined byte, and `STA` with `IMM` (R99), are rejected by name. -/
theorem test_decode_undefined : decode [0x02, 0x10] = .error (.undefinedOpcode 0x02) ∧
    decode [0xFF] = .error (.undefinedOpcode 0xFF) ∧ decode [0x89, 0x55] = .error (.undefinedOpcode 0x89) := by
  decide

/-- No opcode byte, or a missing operand byte. -/
theorem test_decode_truncated : decode [] = .error .truncated ∧ decode [0xA9] = .error .truncated ∧
    decode [0xAD, 0x12] = .error .truncated := by
  decide

/-- What follows the instruction is handed back. -/
theorem test_decode_rest : decode [0xA9, 0x10, 0xEA, 0x00] = .ok (.ldaImm 0x10, [0xEA, 0x00]) := by decide

/-- `STA 0x1234` as the bits of a table word: byte 1 (the high operand byte) in bits 15 to 8. -/
theorem test_table_word : decodeTableWord 24 0x34128D = some (.staAbs 0x1234) ∧ decodeTableWord 8 0x8D = some (.staAbs 0x0000) ∧
    decodeTableWord 8 0x02 = none := by
  decide

/-! ### One step, on vectors of 95_test_vectors.md part 2. `P` is compared as the packed byte of R17. -/

/-- Reset with an instruction stored at an address and `PC` there. -/
def placed (bytes : List Byte) (at' : Addr) : State :=
  let t := storeBytes bytes at' State.reset
  { t with pc := at' }

/-- The next state of a step, if there is one. -/
def nx (r : Result) : Option State :=
  match r with
  | .next t => some t
  | .fault _ => none
  | .refused _ => none

/-- The next state after one step. -/
def after (s : State) : Option State := nx (step s)

/-- `ADC` (R110): `69 50` at 1000. -/
theorem test_adc :
    let s := placed [0x69, 0x50] 0x1000
    (after { s with a := 0x50 }).map (fun t => (t.a, getStatus t, t.pc)) =
      some (0xA0, 0xE0, 0x1002) := by decide

/-- `ADC` (R110): `69 FF` at 1000. -/
theorem test_adc_corner :
    let s := setStatus 0x28 (placed [0x69, 0xFF] 0x1000)
    (after { s with a := 0x01 }).map (fun t => (t.a, getStatus t, t.pc)) =
      some (0x00, 0x2B, 0x1002) := by decide

/-- `SBC` (R111): `E9 00` at 1000. -/
theorem test_sbc :
    let s := setStatus 0x20 (placed [0xE9, 0x00] 0x1000)
    (after { s with a := 0x00 }).map (fun t => (t.a, getStatus t, t.pc)) =
      some (0xFF, 0xA0, 0x1002) := by decide

/-- `SBC` (R111 D ignored): `E9 01` at 1000. -/
theorem test_sbc_corner :
    let s := setStatus 0x29 (placed [0xE9, 0x01] 0x1000)
    (after { s with a := 0x10 }).map (fun t => (t.a, getStatus t, t.pc)) =
      some (0x0F, 0x29, 0x1002) := by decide

/-- `CMP` (R113): `C9 7F` at 1000. -/
theorem test_cmp :
    let s := setStatus 0x21 (placed [0xC9, 0x7F] 0x1000)
    (after { s with a := 0x80 }).map (fun t => (getStatus t, t.pc)) =
      some (0x21, 0x1002) := by decide

/-- `CPX` (R114 ABS): `EC 02 00` at 1000. -/
theorem test_cpx :
    let s := storeBytes [0x02] 0x0200 (placed [0xEC, 0x02, 0x00] 0x1000)
    (after { s with x := 0x01 }).map (fun t => (getStatus t, t.pc)) =
      some (0xA0, 0x1003) := by decide

/-- `CPY` (R115): `C0 04` at 1000. -/
theorem test_cpy :
    let s := placed [0xC0, 0x04] 0x1000
    (after { s with y := 0x03 }).map (fun t => (getStatus t, t.pc)) =
      some (0xA0, 0x1002) := by decide

/-- `AND` (R120): `29 00` at 1000. -/
theorem test_and :
    let s := setStatus 0xE1 (placed [0x29, 0x00] 0x1000)
    (after { s with a := 0xFF }).map (fun t => (t.a, getStatus t, t.pc)) =
      some (0x00, 0x63, 0x1002) := by decide

/-- `ORA` (R121): `09 80` at 1000. -/
theorem test_ora :
    let s := placed [0x09, 0x80] 0x1000
    (after { s with a := 0x0F }).map (fun t => (t.a, getStatus t, t.pc)) =
      some (0x8F, 0xA0, 0x1002) := by decide

/-- `EOR` (R122): `49 FF` at 1000. -/
theorem test_eor :
    let s := placed [0x49, 0xFF] 0x1000
    (after { s with a := 0xAA }).map (fun t => (t.a, getStatus t, t.pc)) =
      some (0x55, 0x20, 0x1002) := by decide

/-- `LDA` (R123 INDY ptr at FF): `B1 FF` at 1000. -/
theorem test_lda :
    let s := storeBytes [0x66] 0x0006 (storeBytes [0xAB, 0x05] 0x00FF (placed [0xB1, 0xFF] 0x1000))
    (after { s with y := 0x01 }).map (fun t => (t.a, getStatus t, t.pc)) =
      some (0x66, 0x20, 0x1002) := by decide

/-- `LDX` (R124 ZPXI): `B6 20` at 1000. -/
theorem test_ldx :
    let s := storeBytes [0x5A] 0x8000 (storeBytes [0x80, 0x00] 0x0024 (placed [0xB6, 0x20] 0x1000))
    (after { s with x := 0x04 }).map (fun t => (t.x, getStatus t, t.pc)) =
      some (0x5A, 0x20, 0x1002) := by decide

/-- `LDY` (R125 ABSX): `BC 03 00` at 1000. -/
theorem test_ldy :
    let s := storeBytes [0xF0] 0x0310 (placed [0xBC, 0x03, 0x00] 0x1000)
    (after { s with x := 0x10 }).map (fun t => (t.y, getStatus t, t.pc)) =
      some (0xF0, 0xA0, 0x1003) := by decide

/-- `INC` (R126 ZP): `E6 40` at 1000. -/
theorem test_inc :
    (after (setStatus 0x61 (storeBytes [0xFF] 0x0040 (placed [0xE6, 0x40] 0x1000)))).map (fun t => (getStatus t, t.pc, memRead 0x0040 t)) =
      some (0x63, 0x1002, 0x00) := by decide

/-- `DEC` (R127 ABS): `CE 02 00` at 1000. -/
theorem test_dec :
    (after (storeBytes [0x00] 0x0200 (placed [0xCE, 0x02, 0x00] 0x1000))).map (fun t => (getStatus t, t.pc, memRead 0x0200 t)) =
      some (0xA0, 0x1003, 0xFF) := by decide

/-- `STA` (R128 ABSX): `9D FF FF` at 1000. -/
theorem test_sta :
    let s := placed [0x9D, 0xFF, 0xFF] 0x1000
    (after { s with a := 0x5A, x := 0x02 }).map (fun t => (getStatus t, t.pc, memRead 0x0001 t)) =
      some (0x20, 0x1003, 0x5A) := by decide

/-- `STX` (R129 ZPXI): `96 20` at 1000. -/
theorem test_stx :
    let s := storeBytes [0x80, 0x00] 0x0024 (placed [0x96, 0x20] 0x1000)
    (after { s with x := 0x04, y := 0x09 }).map (fun t => (getStatus t, t.pc, memRead 0x8000 t)) =
      some (0x20, 0x1002, 0x04) := by decide

/-- `STY` (R130 ZPXI): `94 20` at 1000. -/
theorem test_sty :
    let s := storeBytes [0x80, 0x00] 0x0024 (placed [0x94, 0x20] 0x1000)
    (after { s with x := 0x04, y := 0x09 }).map (fun t => (getStatus t, t.pc, memRead 0x8000 t)) =
      some (0x20, 0x1002, 0x09) := by decide

/-- `INX` (R131): `E8` at 1000. -/
theorem test_inx :
    let s := setStatus 0x21 (placed [0xE8] 0x1000)
    (after { s with x := 0xFF }).map (fun t => (t.x, getStatus t, t.pc)) =
      some (0x00, 0x23, 0x1001) := by decide

/-- `INY` (R132): `C8` at 1000. -/
theorem test_iny :
    let s := placed [0xC8] 0x1000
    (after { s with y := 0x00 }).map (fun t => (t.y, getStatus t, t.pc)) =
      some (0x01, 0x20, 0x1001) := by decide

/-- `DEX` (R133): `CA` at 1000. -/
theorem test_dex :
    let s := placed [0xCA] 0x1000
    (after { s with x := 0x00 }).map (fun t => (t.x, getStatus t, t.pc)) =
      some (0xFF, 0xA0, 0x1001) := by decide

/-- `DEY` (R134): `88` at 1000. -/
theorem test_dey :
    let s := placed [0x88] 0x1000
    (after { s with y := 0x00 }).map (fun t => (t.y, getStatus t, t.pc)) =
      some (0xFF, 0xA0, 0x1001) := by decide

/-- `ASL` (R140 ACC): `0A` at 1000. -/
theorem test_asl :
    let s := placed [0x0A] 0x1000
    (after { s with a := 0x81 }).map (fun t => (t.a, getStatus t, t.pc)) =
      some (0x02, 0x21, 0x1001) := by decide

/-- `LSR` (R141 ACC): `4A` at 1000. -/
theorem test_lsr :
    let s := setStatus 0xA0 (placed [0x4A] 0x1000)
    (after { s with a := 0xFF }).map (fun t => (t.a, getStatus t, t.pc)) =
      some (0x7F, 0x21, 0x1001) := by decide

/-- `ROL` (R142 ZPXI): `36 20` at 1000. -/
theorem test_rol :
    let s := setStatus 0x21 (storeBytes [0x40] 0x8000 (storeBytes [0x80, 0x00] 0x0024 (placed [0x36, 0x20] 0x1000)))
    (after { s with x := 0x04 }).map (fun t => (getStatus t, t.pc, memRead 0x8000 t)) =
      some (0xA0, 0x1002, 0x81) := by decide

/-- `ROR` (R143 ACC): `6A` at 1000. -/
theorem test_ror :
    let s := setStatus 0x21 (placed [0x6A] 0x1000)
    (after { s with a := 0x00 }).map (fun t => (t.a, getStatus t, t.pc)) =
      some (0x80, 0xA0, 0x1001) := by decide

/-- `BIT` (R144 ZP): `24 10` at 1000. -/
theorem test_bit :
    let s := setStatus 0x21 (storeBytes [0xC0] 0x0010 (placed [0x24, 0x10] 0x1000))
    (after { s with a := 0x3F }).map (fun t => (getStatus t, t.pc)) =
      some (0xE3, 0x1002) := by decide

/-- `TAX` (R150): `AA` at 1000. -/
theorem test_tax :
    let s := placed [0xAA] 0x1000
    (after { s with a := 0x80 }).map (fun t => (t.x, getStatus t, t.pc)) =
      some (0x80, 0xA0, 0x1001) := by decide

/-- `TAY` (R151): `A8` at 1000. -/
theorem test_tay :
    let s := placed [0xA8] 0x1000
    (after { s with a := 0x00, y := 0x55 }).map (fun t => (t.y, getStatus t, t.pc)) =
      some (0x00, 0x22, 0x1001) := by decide

/-- `TXA` (R152): `8A` at 1000. -/
theorem test_txa :
    let s := placed [0x8A] 0x1000
    (after { s with x := 0x7F }).map (fun t => (t.a, getStatus t, t.pc)) =
      some (0x7F, 0x20, 0x1001) := by decide

/-- `TYA` (R153): `98` at 1000. -/
theorem test_tya :
    let s := placed [0x98] 0x1000
    (after { s with y := 0xFF }).map (fun t => (t.a, getStatus t, t.pc)) =
      some (0xFF, 0xA0, 0x1001) := by decide

/-- `TSX` (R154): `BA` at 1000. -/
theorem test_tsx :
    let s := placed [0xBA] 0x1000
    (after { s with sp := 0x03, x := 0x55 }).map (fun t => (t.x, getStatus t, t.pc)) =
      some (0x03, 0x20, 0x1001) := by decide

/-- `TXS` (R155): `9A` at 1000. -/
theorem test_txs :
    let s := setStatus 0xA0 (placed [0x9A] 0x1000)
    (after { s with x := 0x40 }).map (fun t => (t.sp, getStatus t, t.pc)) =
      some (0x40, 0xA0, 0x1001) := by decide

/-- `CLC` (R156): `18` at 1000. -/
theorem test_clc :
    (after (setStatus 0xFF (placed [0x18] 0x1000))).map (fun t => (getStatus t, t.pc)) =
      some (0xFE, 0x1001) := by decide

/-- `CLD` (R157): `D8` at 1000. -/
theorem test_cld :
    (after (setStatus 0xFF (placed [0xD8] 0x1000))).map (fun t => (getStatus t, t.pc)) =
      some (0xF7, 0x1001) := by decide

/-- `CLI` (R158): `58` at 1000. -/
theorem test_cli :
    (after (setStatus 0xFF (placed [0x58] 0x1000))).map (fun t => (getStatus t, t.pc)) =
      some (0xFB, 0x1001) := by decide

/-- `CLV` (R159): `B8` at 1000. -/
theorem test_clv :
    (after (setStatus 0xFF (placed [0xB8] 0x1000))).map (fun t => (getStatus t, t.pc)) =
      some (0xBF, 0x1001) := by decide

/-- `SEC` (R160): `38` at 1000. -/
theorem test_sec :
    (after (placed [0x38] 0x1000)).map (fun t => (getStatus t, t.pc)) =
      some (0x21, 0x1001) := by decide

/-- `SED` (R161): `F8` at 1000. -/
theorem test_sed :
    (after (placed [0xF8] 0x1000)).map (fun t => (getStatus t, t.pc)) =
      some (0x28, 0x1001) := by decide

/-- `SEI` (R162): `78` at 1000. -/
theorem test_sei :
    (after (placed [0x78] 0x1000)).map (fun t => (getStatus t, t.pc)) =
      some (0x24, 0x1001) := by decide

/-- `NOP` (R163): `EA` at 1000. -/
theorem test_nop :
    (after (setStatus 0xE3 (placed [0xEA] 0x1000))).map (fun t => (getStatus t, t.pc)) =
      some (0xE3, 0x1001) := by decide

/-- `BCC` (R171 taken): `90 04` at 1000. -/
theorem test_bcc :
    (after (placed [0x90, 0x04] 0x1000)).map (fun t => (getStatus t, t.pc)) =
      some (0x20, 0x1006) := by decide

/-- `BCC` (R171 not taken): `90 04` at 1000. -/
theorem test_bcc_corner :
    (after (setStatus 0x21 (placed [0x90, 0x04] 0x1000))).map (fun t => (getStatus t, t.pc)) =
      some (0x21, 0x1002) := by decide

/-- `BCS` (R172 taken back): `B0 FC` at 1010. -/
theorem test_bcs :
    (after (setStatus 0x21 (placed [0xB0, 0xFC] 0x1010))).map (fun t => (getStatus t, t.pc)) =
      some (0x21, 0x100E) := by decide

/-- `BEQ` (R173 taken): `F0 10` at 2000. -/
theorem test_beq :
    (after (setStatus 0x22 (placed [0xF0, 0x10] 0x2000))).map (fun t => (getStatus t, t.pc)) =
      some (0x22, 0x2012) := by decide

/-- `BMI` (R174 taken): `30 FE` at 2000. -/
theorem test_bmi :
    (after (setStatus 0xA0 (placed [0x30, 0xFE] 0x2000))).map (fun t => (getStatus t, t.pc)) =
      some (0xA0, 0x2000) := by decide

/-- `BNE` (R175 taken wrap down): `D0 80` at 0000. -/
theorem test_bne :
    (after (placed [0xD0, 0x80] 0x0000)).map (fun t => (getStatus t, t.pc)) =
      some (0x20, 0xFF82) := by decide

/-- `BPL` (R176 taken max): `10 7F` at 1000. -/
theorem test_bpl :
    (after (placed [0x10, 0x7F] 0x1000)).map (fun t => (getStatus t, t.pc)) =
      some (0x20, 0x1081) := by decide

/-- `BVC` (R177 taken min): `50 80` at 1000. -/
theorem test_bvc :
    (after (placed [0x50, 0x80] 0x1000)).map (fun t => (getStatus t, t.pc)) =
      some (0x20, 0x0F82) := by decide

/-- `BVS` (R178 taken wrap): `70 02` at FFFE. -/
theorem test_bvs :
    (after (setStatus 0x60 (placed [0x70, 0x02] 0xFFFE))).map (fun t => (getStatus t, t.pc)) =
      some (0x60, 0x0002) := by decide

/-- `JMP` (R179 IND p=30FF): `6C 30 FF` at 1000. -/
theorem test_jmp :
    (after (storeBytes [0x20, 0x00] 0x30FF (placed [0x6C, 0x30, 0xFF] 0x1000))).map (fun t => (getStatus t, t.pc)) =
      some (0x20, 0x2000) := by decide

/-- `JMP` (R179 IND p=FFFF): `6C FF FF` at 1000. -/
theorem test_jmp_corner :
    (after (storeBytes [0x34] 0x0000 (storeBytes [0x12] 0xFFFF (placed [0x6C, 0xFF, 0xFF] 0x1000)))).map (fun t => (getStatus t, t.pc)) =
      some (0x20, 0x1234) := by decide

/-- `JSR` (R180 SP=FF): `20 20 00` at 1000. -/
theorem test_jsr :
    let s := placed [0x20, 0x20, 0x00] 0x1000
    (after { s with sp := 0xFF }).map (fun t => (t.sp, getStatus t, t.pc, memRead 0x01FF t, memRead 0x0100 t)) =
      some (0x01, 0x20, 0x2000, 0x10, 0x02) := by decide

/-- `JSR` (R180 at FFFE): `20` at FFFE. -/
theorem test_jsr_corner :
    (after (storeBytes [0x00] 0x0000 (storeBytes [0x20] 0xFFFF (placed [0x20] 0xFFFE)))).map (fun t => (t.sp, getStatus t, t.pc, memRead 0x0100 t, memRead 0x0101 t)) =
      some (0x02, 0x20, 0x2000, 0x00, 0x00) := by decide

/-- `RTS` (R181 SP=01): `60` at 2000. -/
theorem test_rts :
    let s := storeBytes [0x12] 0x01FF (storeBytes [0x33] 0x0100 (placed [0x60] 0x2000))
    (after { s with sp := 0x01 }).map (fun t => (t.sp, getStatus t, t.pc)) =
      some (0xFF, 0x20, 0x1234) := by decide

/-- `PHA` (R194 SP=FF): `48` at 1000. -/
theorem test_pha :
    let s := placed [0x48] 0x1000
    (after { s with a := 0x42, sp := 0xFF }).map (fun t => (t.sp, getStatus t, t.pc, memRead 0x01FF t)) =
      some (0x00, 0x20, 0x1001, 0x42) := by decide

/-- `PHP` (R195): `08` at 1000. -/
theorem test_php :
    let s := setStatus 0x23 (placed [0x08] 0x1000)
    (after { s with sp := 0x05 }).map (fun t => (t.sp, getStatus t, t.pc, memRead 0x0105 t)) =
      some (0x06, 0x23, 0x1001, 0x23) := by decide

/-- `PLA` (R196 SP=00): `68` at 1000. -/
theorem test_pla :
    let s := storeBytes [0x77] 0x01FF (placed [0x68] 0x1000)
    (after { s with sp := 0x00 }).map (fun t => (t.a, t.sp, getStatus t, t.pc)) =
      some (0x77, 0xFF, 0x20, 0x1001) := by decide

/-- `PLP` (R197 00): `28` at 1000. -/
theorem test_plp :
    let s := setStatus 0xFF (storeBytes [0x00] 0x0100 (placed [0x28] 0x1000))
    (after { s with sp := 0x01 }).map (fun t => (t.sp, getStatus t, t.pc)) =
      some (0x00, 0x20, 0x1001) := by decide

/-- `BRK` (R198): `00` at 1000. -/
theorem test_brk :
    (after (setStatus 0x21 (storeBytes [0x30, 0x00] 0xFFFE (placed [0x00] 0x1000)))).map (fun t => (t.sp, getStatus t, t.pc, memRead 0x0100 t, memRead 0x0101 t, memRead 0x0102 t)) =
      some (0x03, 0x35, 0x3000, 0x10, 0x02, 0x31) := by decide

/-- `RTI` (R199): `40` at 3000. -/
theorem test_rti :
    let s := setStatus 0x35 (storeBytes [0x10, 0x02, 0x31] 0x0100 (placed [0x40] 0x3000))
    (after { s with sp := 0x03 }).map (fun t => (t.sp, getStatus t, t.pc)) =
      some (0x00, 0x31, 0x1002) := by decide

/-- undefined opcode (R211): `02` at 1000. -/
theorem test_undefined :
    let s := setStatus 0x21 (placed [0x02] 0x1000)
    (after { s with a := 0x11 }).map (fun t => (getStatus t, t.pc, t.halt, t.faultOpcode, t.faultAddr)) =
      some (0x21, 0x1000, true, 0x02, 0x1000) := by decide

/-- undefined opcode (R211 STA imm): `89 55` at 1000. -/
theorem test_undefined_corner :
    let s := placed [0x89, 0x55] 0x1000
    (after { s with a := 0x11 }).map (fun t => (getStatus t, t.pc, t.halt, t.faultOpcode, t.faultAddr)) =
      some (0x20, 0x1000, true, 0x89, 0x1000) := by decide

/-! ### The accesses of a step, in order (the last column of the vectors) -/

/-- `B1 10` (`LDA` `INDY`): the instruction's bytes, the pointer, the operand. -/
theorem test_accesses_indy :
    let s := storeBytes [0x12, 0xF0] 0x0010 (placed [0xB1, 0x10] 0x1000)
    stepAccesses { s with y := 0x20 } =
      [.read 0x1000, .read 0x1001, .read 0x0010, .read 0x0011, .read 0x0010] := by decide

/-- `99 03 00` (`STA` `ABSY`): no read of the target, no dummy read. -/
theorem test_accesses_store :
    let s := placed [0x99, 0x03, 0x00] 0x1000
    stepAccesses { s with a := 0x5A, y := 0xFF } =
      [.read 0x1000, .read 0x1001, .read 0x1002, .write 0x03FF 0x5A] := by decide

/-- `E6 40` (`INC` `ZP`): one read, one write (D21). -/
theorem test_accesses_modify :
    stepAccesses (storeBytes [0xFF] 0x0040 (placed [0xE6, 0x40] 0x1000)) =
      [.read 0x1000, .read 0x1001, .read 0x0040, .write 0x0040 0x00] := by decide

/-- `00` (`BRK`), the first step after reset with nothing stored (R231): the pushes before the vector is read; the byte
after the opcode is not read. -/
theorem test_reset_step :
    stepAccesses State.reset =
      [.read 0x0000, .write 0x0100 0x00, .write 0x0101 0x02, .write 0x0102 0x30, .read 0xFFFE, .read 0xFFFF] ∧
    (after State.reset).map (fun t => (t.pc, t.sp, t.cyc)) = some (0x0000, 0x03, 0x0001) := by decide

/-- `40` (`RTI`): status, low byte, high byte. -/
theorem test_accesses_rti :
    let s := storeBytes [0x10, 0x02, 0x31] 0x0100 (placed [0x40] 0x3000)
    stepAccesses { s with sp := 0x03 } =
      [.read 0x3000, .read 0x0102, .read 0x0101, .read 0x0100] := by decide

/-! ### Memory, the driver and the fetch -/

/-- Writing what an unlisted address reads as removes the entry; a write in the middle keeps the order. -/
theorem test_memory_form :
    Memory.write [(0x10, 0x01), (0x20, 0x02)] 0x10 0x00 = [(0x20, 0x02)] ∧
    Memory.write [(0x10, 0x01), (0x20, 0x02)] 0x18 0x03 = [(0x10, 0x01), (0x18, 0x03), (0x20, 0x02)] := by decide

/-- A memory out of order, with a zero byte, or with an address past the array is not canonical. -/
theorem test_memory_wf :
    Memory.wf [(0x20, 0x01), (0x10, 0x02)] = false ∧ Memory.wf [(0x10, 0x00)] = false ∧
    Memory.wf [(0x10000, 0x01)] = false ∧ Memory.wf [(0x10, 0x01), (0xFFFF, 0x02)] = true := by decide

/-- `STA 0x0010` as a table word is what the next step runs. -/
theorem test_withFetchWord :
    let s := State.reset.withFetchWord 24 0x10008D
    (after { s with a := 0x42 }).map (fun t => (memRead 0x0010 t, t.pc)) = some (0x42, 0x0003) := by decide

/-- R24, R17: what the observation port shows after `reset` (E9). -/
theorem test_reset_observed : observe (resetWith []) = ⟨0x00, 0x00, 0x00, 0x00, 0x0000, 0x0000, 0x20, false, 0x00, 0x0000⟩ := by
  decide

/-- R230, R21: a reset clears `HALT`; a load of `PC`, a store and a step leave it. -/
theorem test_reset_clears_halt :
    let s := { placed [0x02] 0x1000 with halt := true }
    [Event.reset [], .loadPc 0x2000, .storeByte 0x1000 0xEA, .step].map
      (fun e => match onEvent e s with | .next t => some t.halt | _ => none) =
    [some false, some true, some true, some true] := by decide

/-- `NOP` at 0x1000, launched to end at 0x1001: the result is there after one step, not before. -/
def nopLaunch : Launch := { image := [(0x1000, 0x02), (0x1000, 0xEA)], entry := 0x1000, finish := 0x1001 }

/-- R233, R236: one `NOP` reaches the end in one step. -/
theorem test_run_of_a_launch :
    runResult nopLaunch 0 = none ∧ (runResult nopLaunch 1).map (fun t => (t.pc, t.cyc)) = some (0x1001, 0x0001) ∧
    runResult { nopLaunch with finish := 0x1000 } 0 = some (launchState nopLaunch) := by decide

/-! ### Each obligation's hypotheses can be met: one witness for each clause, boundary values first -/

theorem witness_EncodeRestoresDecodedBytes : decode [0xAD, 0xFF, 0xFF, 0x00] = .ok (.ldaAbs 0xFFFF, [0x00]) := by decide

theorem witness_FieldBitsGiveTheMode :
    (Instr.ldaImm 0x00).mnemonic.group = .operandConsuming ∧ (Instr.aslAcc).mnemonic.group = .operandConsuming := by decide

/-- One for each arm of the chain. -/
theorem witness_ImpliedFormsPerOpcode :
    ∀ i ∈ [Instr.bpl 0x80, .bcs 0x7F, .jsr 0xFFFF, .jmpAbs 0x0000, .jmpInd 0x30FF, .inx, .dex, .iny, .dey, .brk, .nop],
      i.mnemonic.group = .implied := by decide

theorem witness_InstructionFormats :
    Instr.brk.mode.id ∈ [ModeId.imp, .acc, .regx, .regy] ∧ Instr.dey.mode.id ∈ [ModeId.imp, .acc, .regx, .regy] ∧
    (Instr.bne 0xF9).mode.id ∈ [ModeId.imm, .zp, .zpxd, .zpxi, .indy, .rel] ∧
    (Instr.jmpInd 0xFFFF).mode.id ∈ [ModeId.abs, .absx, .absy, .ind] ∧
    (Instr.ldaImm 0x00).opcode = (Instr.ldaImm 0xFF).opcode := by decide

/-- The instruction's bytes wrap from 0xFFFF to 0x0000 (R44). -/
theorem witness_StepRunsTheDecodedInstruction :
    let s := placed [0xAD, 0x12, 0x34] 0xFFFE
    s.halt = false ∧ decode [memRead s.pc s, memRead (s.pc + 1) s, memRead (s.pc + 2) s] = .ok (.ldaAbs 0x1234, []) := by
  decide

theorem witness_StoredInstructionIsRun : State.reset.halt = false := by decide

/-- The first and the last undefined byte (R67). -/
theorem witness_UndefinedOpcodeHalts :
    (0x02 : Byte) ∈ undefinedBytes ∧ (0xFF : Byte) ∈ undefinedBytes ∧
    (placed [0x02] 0x1000).halt = false ∧ memRead (placed [0x02] 0x1000).pc (placed [0x02] 0x1000) ∈ undefinedBytes := by
  decide

theorem witness_HaltedStepChangesNothing : { State.reset with halt := true }.halt = true := by decide

/-- Both directions: a step that halts and one that does not. -/
theorem witness_HaltOnlyByUndefinedOpcode :
    (placed [0xFF] 0x0300).halt = false ∧ (after (placed [0xFF] 0x0300)).map (·.halt) = some true ∧
    State.reset.halt = false ∧ (after State.reset).map (·.halt) = some false := by decide

/-- One for each length. -/
theorem witness_PcPassesTheInstruction :
    ∀ i ∈ [Instr.nop, .aslAcc, .ldaImm 0x00, .staIndy 0xFF, .ldaAbs 0xFFFF],
      i.mnemonic ∉ [Mnemonic.bcc, .bcs, .beq, .bmi, .bne, .bpl, .bvc, .bvs, .jmp, .jsr, .rts, .brk, .rti] := by decide

theorem witness_ResolverFollowsTheDocumentsPaths :
    (Instr.ldaImm 0x00).mode.id = .imm ∧ (Instr.rorAcc).mode = .acc ∧ (Instr.bvs 0x80).mode.id = .rel := by decide

theorem witness_OperandReadAndWrite :
    ∀ mn ∈ [Mnemonic.sta, .stx, .sty, .jmp, .jsr], mn ∈ [Mnemonic.sta, .stx, .sty, .jmp, .jsr] := by decide

/-- The lowest and the highest address. -/
theorem witness_EqualBytesMeanEqualMemory_write :
    State.reset.mem.wf = true ∧ (memWrite 0xFFFF 0x01 (memWrite 0x0000 0x02 State.reset)).mem.wf = true := by decide

/-- In the middle, and at the top where the address wraps. -/
theorem witness_TwoByteReadIsHighFirst :
    (0x1235 : Addr).toNat = ((0x1234 : Addr).toNat + 1) % 65536 ∧ (0x0000 : Addr).toNat = ((0xFFFF : Addr).toNat + 1) % 65536 := by
  decide

theorem witness_EqualBytesMeanEqualMemory :
    ∃ m n : Memory, m.wf = true ∧ n.wf = true ∧ m ≠ [] ∧ ∀ a : Addr, m.read a.toNat = n.read a.toNat :=
  ⟨[(0x10, 0x01), (0xFFFF, 0x02)], [(0x10, 0x01), (0xFFFF, 0x02)], by decide, by decide, by decide, fun _ => rfl⟩

/-- A store, a push at the wrap of the stack, and a form that writes nothing. -/
theorem witness_OnlyListedAddressesAreWritten :
    (0x0011 : Addr) ∉ writtenAddrs (instrAccesses (.staZp 0x10) State.reset) ∧
    (0x0102 : Addr) ∉ writtenAddrs (instrAccesses (.jsr 0x2000) { State.reset with sp := 0xFF }) ∧
    (0x0000 : Addr) ∉ writtenAddrs (instrAccesses .nop State.reset) := by decide

/-- `LDA 0x10` at 0x1000. -/
def loadAtPc : State := { State.reset with pc := 0x1000, mem := [(0x1000, 0xA5), (0x1001, 0x10)] }

/-- Another memory, which differs at an address that the step does not read. -/
def otherMemory : Memory := [(0x1000, 0xA5), (0x1001, 0x10), (0x2000, 0x55)]

theorem witness_StepDependsOnlyOnItsReads :
    otherMemory ≠ loadAtPc.mem ∧
      ∀ a ∈ readAddrs (stepAccesses loadAtPc), otherMemory.read a.toNat = loadAtPc.mem.read a.toNat := by
  refine ⟨by decide, ?_⟩
  rw [show readAddrs (stepAccesses loadAtPc) = [0x1000, 0x1001, 0x0010] by decide]
  simp only [List.mem_cons, List.not_mem_nil, or_false]
  rintro a (rfl | rfl | rfl) <;> rfl

theorem witness_StatusByteLayout : State.reset.flagU = true ∧ (setStatus 0x00 State.reset).flagU = true := by decide

/-- An instruction outside every list. -/
theorem witness_FlagsChangeOnlyWhereListed :
    Mnemonic.nop ∉ [Mnemonic.adc, .sbc, .cmp, .cpx, .cpy, .asl, .lsr, .rol, .ror, .clc, .sec, .plp, .rti] ∧
    Mnemonic.sta ∉ [Mnemonic.adc, .sbc, .cmp, .cpx, .cpy, .and, .ora, .eor, .lda, .ldx, .ldy, .inc, .dec, .inx, .iny, .dex,
      .dey, .asl, .lsr, .rol, .ror, .tax, .tay, .txa, .tya, .tsx, .bit, .plp, .rti] ∧
    Mnemonic.php ∉ [Mnemonic.sei, .cli, .brk, .plp, .rti] ∧ Mnemonic.brk ∉ [Mnemonic.sed, .cld, .plp, .rti] ∧
    Mnemonic.adc ∉ [Mnemonic.brk, .plp, .rti] ∧ Mnemonic.cmp ∉ [Mnemonic.adc, .sbc, .bit, .clv, .plp, .rti] := by decide

/-- `LSR` in memory and `INC` for `A`; loads of the other registers; a transfer for `SP`. -/
theorem witness_RegistersChangeOnlyWhereListed :
    (Instr.lsrZp 0x10).mnemonic ∉ [Mnemonic.adc, .sbc, .and, .ora, .eor, .lda, .txa, .tya, .pla] ∧
    ¬((Instr.lsrZp 0x10).mnemonic ∈ [Mnemonic.asl, .lsr, .rol, .ror] ∧ (Instr.lsrZp 0x10).mode = .acc) ∧
    Mnemonic.lda ∉ [Mnemonic.ldx, .tax, .tsx, .inx, .dex] ∧ Mnemonic.ldx ∉ [Mnemonic.ldy, .tay, .iny, .dey] ∧
    Mnemonic.tsx ∉ [Mnemonic.txs, .pha, .php, .pla, .plp, .jsr, .rts, .brk, .rti] := by decide

theorem witness_UnusedFlagIsNeverCleared : (placed [0x28] 0x1000).flagU = true := by decide

/-- A running state. -/
theorem witness_StepKeepsTheInvariant : StepInv State.reset ∧ (after State.reset).isSome = true :=
  ⟨⟨⟨rfl, rfl⟩, rfl, rfl⟩, by decide⟩

/-- A halted one. -/
theorem witness_StepKeepsTheInvariant_halted :
    let s := { State.reset with halt := true, faultOpcode := 0x02, mem := [(0x0000, 0x02)] }
    StepInv s ∧ step s = .next s :=
  ⟨⟨⟨by decide, rfl⟩, rfl, rfl, by decide⟩, rfl⟩

theorem witness_EventsKeepTheCoreInvariant : CoreInv State.reset := ⟨rfl, rfl⟩

theorem witness_InertFlagsAreNotRead : Mnemonic.adc ∉ [Mnemonic.php, .brk] ∧ Mnemonic.rti ∉ [Mnemonic.php, .brk] := by decide

theorem witness_AdcAddsWithCarry : (Instr.adcImm 0x50).mnemonic = .adc ∧ (Instr.adcIndy 0xFF).mnemonic = .adc := by decide
theorem witness_SbcSubtractsWithBorrow : (Instr.sbcImm 0xFF).mnemonic = .sbc := by decide
theorem witness_OverflowMeansSignedOverflow : (Instr.adcImm 0x7F).mnemonic = .adc ∧ (Instr.sbcImm 0x80).mnemonic = .sbc := by decide

theorem witness_CompareSetsFlagsOnly :
    ((Instr.cmpImm 0x00).mnemonic = .cmp ∧ State.reset.a = State.reset.a) ∧
    ((Instr.cpxZp 0x10).mnemonic = .cpx ∧ State.reset.x = State.reset.x) ∧
    ((Instr.cpyAbs 0xFFFF).mnemonic = .cpy ∧ State.reset.y = State.reset.y) := by decide

theorem witness_LogicIntoA :
    ∀ i ∈ [Instr.andImm 0x0F, .oraZp 0x10, .eorIndy 0xFF], i.mnemonic ∈ [Mnemonic.and, .ora, .eor] := by decide
theorem witness_LoadsFillTheirRegister :
    ∀ i ∈ [Instr.ldaAbsy 0xFFFF, .ldxZpxi 0xFF, .ldyImm 0x00], i.mnemonic ∈ [Mnemonic.lda, .ldx, .ldy] := by decide
theorem witness_IncrementAndDecrementMemory :
    ∀ i ∈ [Instr.incZp 0x00, .decAbsx 0xFFFF], i.mnemonic ∈ [Mnemonic.inc, .dec] := by decide

theorem witness_StoresWriteTheirOperand :
    ((Instr.staIndy 0xFF).mnemonic = .sta ∧ (0x00 : Byte) = State.reset.a) ∧
    ((Instr.stxZpxi 0x20).mnemonic = .stx ∧ (0x00 : Byte) = State.reset.x) ∧
    ((Instr.styAbs 0xFFFF).mnemonic = .sty ∧ (0x00 : Byte) = State.reset.y) := by decide

theorem witness_ShiftsMoveOneBit : ∀ i ∈ [Instr.aslAcc, .lsrAbsx 0xFFFF], i.mnemonic ∈ [Mnemonic.asl, .lsr] := by decide
theorem witness_RotatesGoThroughCarry : ∀ i ∈ [Instr.rolZpxi 0xFF, .rorAcc], i.mnemonic ∈ [Mnemonic.rol, .ror] := by decide

/-- In `A` and in memory. -/
theorem witness_AslThenRorRestores :
    ∀ p ∈ [(Instr.aslAcc, Instr.rorAcc), (.aslZp 0x40, .rorZp 0x40), (.aslAbsx 0xFFFF, .rorAbsx 0xFFFF)],
      p.1.mnemonic = .asl ∧ p.2.mnemonic = .ror ∧ p.1.mode = p.2.mode ∧ p.1.mode.id ≠ .zpxi := by decide

theorem witness_BitTestsTheOperand : (Instr.bitZp 0x10).mnemonic = .bit ∧ (Instr.bitAbs 0xFFFF).mnemonic = .bit := by decide

/-- Forward, backward, and wrapping at either end (vectors of R171 to R178). -/
theorem witness_BranchesAddTheDisplacement :
    ((0x1081 : Addr).toNat : Int) = (((0x1000 : Addr).toNat : Int) + 2 + (0x7F : Byte).toInt) % 65536 ∧
    ((0x1000 : Addr).toNat : Int) = (((0x1005 : Addr).toNat : Int) + 2 + (0xF9 : Byte).toInt) % 65536 ∧
    ((0xFF82 : Addr).toNat : Int) = (((0x0000 : Addr).toNat : Int) + 2 + (0x80 : Byte).toInt) % 65536 ∧
    ((0x0002 : Addr).toNat : Int) = (((0xFFFE : Addr).toNat : Int) + 2 + (0x02 : Byte).toInt) % 65536 :=
  ⟨rfl, rfl, rfl, rfl⟩

/-- In the middle, and where `a0 + 2` wraps. -/
theorem witness_JsrPushesItsLastByte :
    (0x10 : Byte).toNat * 256 + (0x02 : Byte).toNat = ((0x1000 : Addr).toNat + 2) % 65536 ∧
    (0x00 : Byte).toNat * 256 + (0x00 : Byte).toNat = ((0xFFFE : Addr).toNat + 2) % 65536 := by decide

/-- The return address wraps from 0xFFFF to 0x0000. -/
theorem witness_RtsPullsAndAddsOne :
    let u := storeBytes [0xFF, 0xFF] 0x0100 (placed [0x60] 0x2000)
    let s := { u with sp := 0x02 }
    (0x0000 : Addr).toNat = ((memRead (0x0100 + (s.sp - 2).setWidth 16) s).toNat * 256 +
      (memRead (0x0100 + (s.sp - 1).setWidth 16) s).toNat + 1) % 65536 := by decide

/-- The pull wraps from 0x0100 to 0x01FF. -/
theorem witness_PlaAndPlpPullOneByte :
    let s := storeBytes [0x77] 0x01FF (placed [0x68] 0x1000)
    (0x77 : Byte) = memRead (0x0100 + (s.sp - 1).setWidth 16) s := by decide

/-- `BRK` at 0xFFFF: the return address is 0x0001 and the vector's low byte is the opcode itself. -/
theorem witness_BrkTakesTheTrap :
    let s := storeBytes [0x30] 0xFFFE (placed [0x00] 0xFFFF)
    (0x00 : Byte).toNat * 256 + (0x01 : Byte).toNat = (s.pc.toNat + 2) % 65536 ∧
    (0x3000 : Addr).toNat = (memRead 0xFFFE s).toNat * 256 + (memRead 0xFFFF s).toNat := by decide

theorem witness_RtiReturnsFromTheTrap :
    let u := storeBytes [0x10, 0x02, 0x31] 0x0100 (placed [0x40] 0x3000)
    let s := { u with sp := 0x03 }
    (0x31 : Byte) = memRead (0x0100 + (s.sp - 1).setWidth 16) s ∧
    (0x1002 : Addr).toNat = (memRead (0x0100 + (s.sp - 3).setWidth 16) s).toNat * 256 +
      (memRead (0x0100 + (s.sp - 2).setWidth 16) s).toNat := by decide

/-- One for each clause: at the end, before it, a run with a result, a halted run, an undefined opcode before the end. -/
theorem witness_RunEndsAtItsAddress :
    let s := launchState nopLaunch
    let u := launchState { nopLaunch with image := [(0x1000, 0xFF)] }
    (s.halt = false ∧ s.pc = { nopLaunch with finish := 0x1000 }.finish) ∧
    (s.halt = false ∧ s.pc ≠ nopLaunch.finish) ∧
    (runFrom nopLaunch 1 s).isSome = true ∧
    ({ s with halt := true }.halt = true) ∧
    (u.halt = false ∧ u.pc ≠ nopLaunch.finish ∧ memRead u.pc u ∈ undefinedBytes) := by decide

end Sys2Proof.Tests
end

section
/-! PROOFS. What every event of the block keeps. A handler leaves the memory that its accesses replay to, and replaying
keeps the canonical form; `U` is kept by `handler_keeps`. -/

namespace Sys2Proof.Machine

/-! ### The memory a handler leaves -/

theorem replayWrites_append (k l : List Access) (m : Memory) :
    replayWrites (k ++ l) m = replayWrites l (replayWrites k m) := by
  induction k generalizing m with
  | nil => rfl
  | cons c rest ih => cases c <;> exact ih _

/-- Reading an operand writes nothing (R97). -/
@[simp] theorem replayWrites_operandReadAccess (op : Operand) (m : Memory) :
    replayWrites (operandReadAccess op) m = m := by
  cases op <;> rfl

/-- Writing an operand leaves the memory its access replays to (R98). -/
theorem writeOperand_mem {op : Operand} {v : Byte} {s t : State} (h : writeOperand op v s = .next t) :
    t.mem = replayWrites (operandWriteAccess op v) s.mem := by
  rcases writeOperand_next h with ⟨a, rfl, rfl⟩ | ⟨rfl, rfl⟩ | ⟨rfl, rfl⟩ | ⟨rfl, rfl⟩ <;> rfl

/-- One read, then one write, leaves in memory what the write leaves. -/
theorem replayWrites_modifyAccesses {op : Operand} {s : State} {m : Byte} (h : operandRead op s = some m)
    (f : Byte → Byte) (mem : Memory) :
    replayWrites (modifyAccesses op s f) mem = replayWrites (operandWriteAccess op (f m)) mem := by
  simp [modifyAccesses, h, replayWrites_append]

/-- A handler that answers leaves the memory that its accesses replay to (R46, R49). -/
theorem handler_mem {mn : Mnemonic} {op : Operand} {s t : State} (h : handler mn op s = .next t) :
    t.mem = replayWrites (handlerAccesses mn op s) s.mem := by
  cases mn
  case adc | sbc | cmp | cpx | cpy | and | ora | eor | lda | ldx | ldy | bit =>
    obtain ⟨m, _, h⟩ := readOperand_next h
    cases h; simp [handlerAccesses]
  case inc | dec | inx | iny | dex | dey | asl | lsr | rol | ror =>
    obtain ⟨m, hm, h⟩ := readOperand_next h
    simp [handlerAccesses, replayWrites_modifyAccesses hm, writeOperand_mem h]
  case sta | stx | sty => exact writeOperand_mem h
  case bcc | bcs | beq | bmi | bne | bpl | bvc | bvs =>
    obtain ⟨d, _, rfl⟩ := branch_next h
    split <;> rfl
  case jmp | jsr =>
    obtain ⟨a, _, h⟩ := withTarget_next h
    cases h; rfl
  all_goals (cases h; rfl)

/-! ### The core invariant -/

/-- Only memory and `U` matter to the invariant. -/
theorem CoreInv.of_eq {s t : State} (h : CoreInv s) (hm : t.mem = s.mem) (hu : t.flagU = s.flagU) : CoreInv t :=
  ⟨hm ▸ h.memory, hu ▸ h.unused⟩

theorem handler_keeps_coreInv {mn : Mnemonic} {op : Operand} {s t : State}
    (h : handler mn op s = .next t) (hs : CoreInv s) : CoreInv t := by
  obtain ⟨_, _, _, _, hu⟩ := handler_keeps h
  exact ⟨handler_mem h ▸ replayWrites_wf _ _ hs.memory, hu.trans hs.unused⟩

theorem exec_keeps_coreInv (i : Instr) {s : State} (hs : CoreInv s) : ∃ t, exec i s = .next t ∧ CoreInv t := by
  obtain ⟨t, ht⟩ := handler_answers i s { s with pc := s.pc + BitVec.ofNat 16 i.length }
  have hc : CoreInv t := handler_keeps_coreInv ht (hs.of_eq rfl rfl)
  exact ⟨tick t, exec_next ht, hc.of_eq rfl rfl⟩

theorem step_keeps_coreInv {s : State} (hs : CoreInv s) : ∃ t, step s = .next t ∧ CoreInv t := by
  rcases step_cases s with ⟨_, h⟩ | ⟨_, i, _, h⟩ | ⟨_, _, h⟩
  · exact ⟨s, h, hs⟩
  · exact h ▸ exec_keeps_coreInv i hs
  · exact ⟨_, h, hs.of_eq rfl rfl⟩

/-- The driver's or the environment's write keeps the invariant (R232). -/
theorem memWrite_keeps_coreInv (a : Addr) (v : Byte) {s : State} (hs : CoreInv s) : CoreInv (memWrite a v s) :=
  ⟨memWrite_wf a v s hs.memory, hs.unused⟩

/-- A reset with any image establishes the invariant (R230). -/
theorem resetWith_coreInv (image : List (Addr × Byte)) : CoreInv (resetWith image) :=
  ⟨Memory.ofImage_wf image, rfl⟩

/-- Settles O30, by cases on the event. -/
theorem eventsKeepTheCoreInvariant : Obligations.EventsKeepTheCoreInvariant := by
  intro e s hs
  cases e with
  | reset image => exact ⟨_, rfl, resetWith_coreInv image⟩
  | loadPc t => exact ⟨_, rfl, hs.of_eq rfl rfl⟩
  | storeByte a v => exact ⟨_, rfl, memWrite_keeps_coreInv a v hs⟩
  | step => exact step_keeps_coreInv hs

end Sys2Proof.Machine
end

section
/-! PROOFS. The reset state, the status byte, and what a step keeps: `U`, canonical memory, a truthful fault record. -/

namespace Sys2Proof.Machine

/-! ### Reset -/

/-- Settles O27: every clause is the table of R24 or the reset event, evaluated. -/
theorem resetValues : Obligations.ResetValues := by
  have core : ∀ (s : State) (image : List (Addr × Byte)), onEvent (.reset image) s = .next (resetWith image) ∧
      { resetWith image with mem := [] } = State.reset ∧ (resetWith image).mem = Memory.ofImage image :=
    fun _ _ => ⟨rfl, rfl, rfl⟩
  exact ⟨rfl, rfl, rfl, rfl, rfl, rfl, rfl, rfl, rfl, rfl, rfl, rfl, rfl, rfl, rfl, rfl, rfl, rfl, fun _ => rfl,
    core, rfl⟩

/-! ### The status byte -/

@[simp] theorem getElem_flagBit (f : Bool) (w : Byte) (k : Nat) (hk : k < 8) : (flagBit f w)[k] = (f && w[k]) := by
  cases f <;> simp [flagBit]

/-- Each flag stands at its bit of the status byte (R17). -/
theorem getElem_getStatus (s : State) :
    (getStatus s)[0] = s.flagC ∧ (getStatus s)[1] = s.flagZ ∧ (getStatus s)[2] = s.flagI ∧
    (getStatus s)[3] = s.flagD ∧ (getStatus s)[4] = s.flagB ∧ (getStatus s)[5] = s.flagU ∧
    (getStatus s)[6] = s.flagV ∧ (getStatus s)[7] = s.flagN := by
  simp [getStatus]

/-- `P` after `set_status(b)` is `b` with bit 5 forced to 1 (R18, E1). -/
theorem getStatus_setStatus (b : Byte) {s : State} (hu : s.flagU = true) : getStatus (setStatus b s) = b ||| 0x20 := by
  apply BitVec.eq_of_getElem_eq
  intro k hk
  interval_cases k <;> simp [getElem_getStatus, hu]

/-- `set_status(P)` changes nothing: every flag comes back from its own bit. -/
theorem setStatus_getStatus (s : State) : setStatus (getStatus s) s = s := by
  simp [setStatus, getElem_getStatus]

/-- Settles O23, bit by bit. -/
theorem statusByteLayout : Obligations.StatusByteLayout :=
  ⟨fun s => by simpa using getElem_getStatus s, fun b _ hu => getStatus_setStatus b hu,
    fun s _ => setStatus_getStatus s, fun _ _ => rfl⟩

/-! ### The halted core -/

theorem step_of_halt {s : State} (h : s.halt = true) : step s = .next s := by
  simp [step, runStep, h]

theorem stepAccesses_of_halt {s : State} (h : s.halt = true) : stepAccesses s = [] := by
  simp [stepAccesses, h]

/-- Settles O10, by cases on the event. -/
theorem haltedStepChangesNothing : Obligations.HaltedStepChangesNothing := by
  refine ⟨fun s h => ⟨step_of_halt h, stepAccesses_of_halt h⟩, fun e s h => ?_⟩
  cases e with
  | reset image => exact ⟨_, rfl, by simp [resetWith, State.reset]⟩
  | loadPc t => exact ⟨_, rfl, by simp [h]⟩
  | storeByte a v => exact ⟨_, rfl, by simp [h]⟩
  | step => exact ⟨s, step_of_halt h, by simp [h]⟩

/-! ### What an instruction and a step keep -/

/-- An instruction answers, and it touches neither `HALT` nor the fault records nor `U` (R99, R210). -/
theorem exec_keeps (i : Instr) (s : State) : ∃ t, exec i s = .next t ∧
    t.halt = s.halt ∧ t.faultOpcode = s.faultOpcode ∧ t.faultAddr = s.faultAddr ∧ t.flagU = s.flagU := by
  obtain ⟨t, ht⟩ := handler_answers i s { s with pc := s.pc + BitVec.ofNat 16 i.length }
  obtain ⟨_, hh, ho, ha, hu⟩ := handler_keeps ht
  exact ⟨tick t, exec_next ht, hh, ho, ha, hu⟩

/-- A step answers and leaves `U` as it was (R16). -/
theorem step_keeps_flagU (s : State) : ∃ t, step s = .next t ∧ t.flagU = s.flagU := by
  rcases step_cases s with ⟨_, h⟩ | ⟨_, i, _, h⟩ | ⟨_, _, h⟩
  · exact ⟨s, h, rfl⟩
  · obtain ⟨t, ht, _, _, _, hu⟩ := exec_keeps i s
    exact ⟨t, h.trans ht, hu⟩
  · exact ⟨_, h, rfl⟩

/-- Settles O26, by cases on the event. -/
theorem unusedFlagIsNeverCleared : Obligations.UnusedFlagIsNeverCleared := by
  refine ⟨rfl, fun e s hu => ?_, fun _ _ => rfl⟩
  cases e with
  | reset image => exact ⟨_, rfl, rfl⟩
  | loadPc t => exact ⟨_, rfl, hu⟩
  | storeByte a v => exact ⟨_, rfl, hu⟩
  | step =>
    obtain ⟨t, ht, h⟩ := step_keeps_flagU s
    exact ⟨t, ht, h.trans hu⟩

/-! ### The fault record -/

/-- While the latch is clear the records hold their reset values (U21). -/
theorem faultRecord_of_not_halt {s : State} (h : s.halt = false) :
    FaultRecord s ↔ s.faultOpcode = 0x00 ∧ s.faultAddr = 0x0000 := by
  simp [FaultRecord, h]

/-- Raising the fault at an undefined opcode byte records the truth (R211). -/
theorem raiseUndefinedOpcode_faultRecord {s : State} (h : undefinedOpcode (fetchOpcode s) = true) :
    FaultRecord (raiseUndefinedOpcode (fetchOpcode s) s.pc s) :=
  ⟨rfl, rfl, h⟩

/-- An instruction of a running core leaves the clear latch and the clear records. -/
theorem exec_keeps_faultRecord {i : Instr} {s t : State} (hh : s.halt = false) (hs : FaultRecord s)
    (h : exec i s = .next t) : FaultRecord t := by
  obtain ⟨u, hu, hhalt, hop, haddr, _⟩ := exec_keeps i s
  cases hu.symm.trans h
  rw [faultRecord_of_not_halt (hhalt.trans hh), hop, haddr]
  exact (faultRecord_of_not_halt hh).1 hs

/-- By the three kinds of step: the halted one, the instruction, the fault. -/
theorem step_keeps_faultRecord {s t : State} (hs : FaultRecord s) (h : step s = .next t) : FaultRecord t := by
  rcases step_cases s with ⟨_, hstep⟩ | ⟨hh, i, _, hstep⟩ | ⟨_, hf, hstep⟩
  · cases hstep.symm.trans h
    exact hs
  · exact exec_keeps_faultRecord hh hs (hstep.symm.trans h)
  · cases hstep.symm.trans h
    exact raiseUndefinedOpcode_faultRecord ((fetch_eq_none s).1 hf)

theorem step_keeps_stepInv {s t : State} (hs : StepInv s) (h : step s = .next t) : StepInv t := by
  obtain ⟨u, hu, hcore⟩ := step_keeps_coreInv hs.core
  cases hu.symm.trans h
  exact ⟨hcore, step_keeps_faultRecord hs.fault h⟩

/-- Settles O29: the core invariant and the fault record, each kept by every step. -/
theorem stepKeepsTheInvariant : Obligations.StepKeepsTheInvariant := fun _ _ => step_keeps_stepInv

/-- Settles O28: empty memory is canonical, `U` is 1, and the records of the clear latch are clear. -/
theorem resetMeetsTheInvariant : Obligations.ResetMeetsTheInvariant :=
  ⟨⟨reset_wf, rfl⟩, (faultRecord_of_not_halt rfl).2 ⟨rfl, rfl⟩⟩

end Sys2Proof.Machine
end

section
/-! PROOFS. What every instruction leaves of the flags and registers: the lists of R20 and R26, read off the
handlers. -/

namespace Sys2Proof.Machine

/-! ### What the shared shapes of a handler leave alone -/

/-- Storing a result changes no flag and not `SP` (R98). -/
theorem writeOperand_keeps {op : Operand} {v : Byte} {s t : State} (h : writeOperand op v s = .next t) :
    t.flagC = s.flagC ∧ t.flagZ = s.flagZ ∧ t.flagI = s.flagI ∧ t.flagD = s.flagD ∧ t.flagB = s.flagB ∧
      t.flagV = s.flagV ∧ t.flagN = s.flagN ∧ t.sp = s.sp := by
  rcases writeOperand_next h with ⟨a, _, rfl⟩ | ⟨_, rfl⟩ | ⟨_, rfl⟩ | ⟨_, rfl⟩ <;> simp

/-- Storing a result changes the register that is the operand, and no other (R98). -/
theorem writeOperand_registers {op : Operand} {v : Byte} {s t : State} (h : writeOperand op v s = .next t) :
    (op ≠ .accumulator → t.a = s.a) ∧ (op ≠ .registerX → t.x = s.x) ∧ (op ≠ .registerY → t.y = s.y) := by
  rcases writeOperand_next h with ⟨a, rfl, rfl⟩ | ⟨rfl, rfl⟩ | ⟨rfl, rfl⟩ | ⟨rfl, rfl⟩ <;> simp

/-- A branch that answers has done nothing but write `PC` (R170). -/
theorem branch_setPc {c : Bool} {op : Operand} {s t : State} (h : branch c op s = .next t) : ∃ p, t = setPc p s := by
  obtain ⟨d, _, rfl⟩ := branch_next h
  cases c
  · exact ⟨s.pc, rfl⟩
  · exact ⟨s.pc + d, rfl⟩

/-! ### Flags -/

/-- A handler that answers has changed the flags of R20's lists alone. -/
theorem handler_flags {mn : Mnemonic} {op : Operand} {s t : State} (h : handler mn op s = .next t) :
    (mn ∉ [.adc, .sbc, .cmp, .cpx, .cpy, .asl, .lsr, .rol, .ror, .clc, .sec, .plp, .rti] → t.flagC = s.flagC) ∧
    (mn ∉ [.adc, .sbc, .cmp, .cpx, .cpy, .and, .ora, .eor, .lda, .ldx, .ldy, .inc, .dec, .inx, .iny, .dex,
        .dey, .asl, .lsr, .rol, .ror, .tax, .tay, .txa, .tya, .tsx, .bit, .plp, .rti] →
      t.flagZ = s.flagZ ∧ t.flagN = s.flagN) ∧
    (mn ∉ [.sei, .cli, .brk, .plp, .rti] → t.flagI = s.flagI) ∧
    (mn ∉ [.sed, .cld, .plp, .rti] → t.flagD = s.flagD) ∧
    (mn ∉ [.brk, .plp, .rti] → t.flagB = s.flagB) ∧
    (mn ∉ [.adc, .sbc, .bit, .clv, .plp, .rti] → t.flagV = s.flagV) := by
  cases mn
  case adc | sbc | cmp | cpx | cpy | and | ora | eor | lda | ldx | ldy | bit =>
    obtain ⟨m, _, h⟩ := readOperand_next h
    cases h; simp
  case inc | dec | inx | iny | dex | dey | asl | lsr | rol | ror =>
    obtain ⟨m, _, h⟩ := readOperand_next h
    simp [writeOperand_keeps h]
  case sta | stx | sty => simp [writeOperand_keeps h]
  case bcc | bcs | beq | bmi | bne | bpl | bvc | bvs =>
    obtain ⟨p, rfl⟩ := branch_setPc h
    simp
  case jmp | jsr =>
    obtain ⟨a, _, h⟩ := withTarget_next h
    cases h; simp [push16]
  all_goals (cases h; simp [pulled16, takeBreak_eq])

/-- Settles O24: the handler's frame, the operand and the tick changing no flag. -/
theorem flagsChangeOnlyWhereListed : Obligations.FlagsChangeOnlyWhereListed := by
  intro i s
  obtain ⟨t, ht⟩ := handler_answers i s { s with pc := s.pc + BitVec.ofNat 16 i.length }
  obtain ⟨hc, hzn, hi, hd, hb, hv⟩ := handler_flags ht
  obtain ⟨_, _, _, _, hu⟩ := handler_keeps ht
  exact ⟨tick t, exec_next ht, hc, hzn, hi, hd, hb, hv, hu⟩

/-! ### Registers -/

/-- A handler that answers has changed the registers of R26's matrix alone, or the register that is its operand. -/
theorem handler_registers {mn : Mnemonic} {op : Operand} {s t : State} (h : handler mn op s = .next t) :
    (mn ∉ [.adc, .sbc, .and, .ora, .eor, .lda, .txa, .tya, .pla] → op ≠ .accumulator → t.a = s.a) ∧
    (mn ∉ [.ldx, .tax, .tsx] → op ≠ .registerX → t.x = s.x) ∧
    (mn ∉ [.ldy, .tay] → op ≠ .registerY → t.y = s.y) ∧
    (mn ∉ [.txs, .pha, .php, .pla, .plp, .jsr, .rts, .brk, .rti] → t.sp = s.sp) := by
  cases mn
  case adc | sbc | cmp | cpx | cpy | and | ora | eor | lda | ldx | ldy | bit =>
    obtain ⟨m, _, h⟩ := readOperand_next h
    cases h; simp
  case inc | dec | inx | iny | dex | dey | asl | lsr | rol | ror =>
    obtain ⟨m, _, h⟩ := readOperand_next h
    simpa [writeOperand_keeps h] using writeOperand_registers h
  case sta | stx | sty => simpa [writeOperand_keeps h] using writeOperand_registers h
  case bcc | bcs | beq | bmi | bne | bpl | bvc | bvs =>
    obtain ⟨p, rfl⟩ := branch_setPc h
    simp
  case jmp | jsr =>
    obtain ⟨a, _, h⟩ := withTarget_next h
    cases h; simp [push16]
  all_goals (cases h; simp [pulled16, takeBreak_eq, returnFromBreak_eq])

/-- The register operands belong to the shifts in mode `ACC` and to the register increments (R88, R100). -/
theorem operandOf_register (i : Instr) (s : State) :
    (operandOf i s = .accumulator → i.mnemonic ∈ [.asl, .lsr, .rol, .ror] ∧ i.mode = .acc) ∧
    (operandOf i s = .registerX → i.mnemonic ∈ [.inx, .dex]) ∧
    (operandOf i s = .registerY → i.mnemonic ∈ [.iny, .dey]) := by
  cases i <;> simp [operandOf, Instr.mnemonic, Mnemonic.group, Instr.mode, resolve]

/-- Settles O25: the handler's frame, and which instructions have a register as operand. -/
theorem registersChangeOnlyWhereListed : Obligations.RegistersChangeOnlyWhereListed := by
  intro i s
  obtain ⟨t, ht⟩ := handler_answers i s { s with pc := s.pc + BitVec.ofNat 16 i.length }
  obtain ⟨ha, hx, hy, hsp⟩ := handler_registers ht
  obtain ⟨opA, opX, opY⟩ := operandOf_register i s
  refine ⟨tick t, exec_next ht, fun hmn hacc => ha hmn (hacc ∘ opA), fun hmn => ?_, fun hmn => ?_, hsp⟩
  · obtain ⟨h, hop⟩ : i.mnemonic ∉ [.ldx, .tax, .tsx] ∧ i.mnemonic ∉ [.inx, .dex] := by simpa [and_assoc] using hmn
    exact hx h (hop ∘ opX)
  · obtain ⟨h, hop⟩ : i.mnemonic ∉ [.ldy, .tay] ∧ i.mnemonic ∉ [.iny, .dey] := by simpa [and_assoc] using hmn
    exact hy h (hop ∘ opY)

end Sys2Proof.Machine
end

section
/-! PROOFS. `I`, `D` and `B` are inert: with other values of them a handler does the same to everything else. -/

namespace Sys2Proof.Machine

section

/-! ### What does not see the inert flags -/

variable (fi fd fb : Bool)

@[simp] theorem operandOf_withInertFlags (i : Instr) (s : State) :
    operandOf i (withInertFlags fi fd fb s) = operandOf i s := resolve_congr _ _ rfl rfl rfl

@[simp] theorem operandRead_withInertFlags (op : Operand) (s : State) :
    operandRead op (withInertFlags fi fd fb s) = operandRead op s := by
  cases op <;> rfl

theorem writeOperand_withInertFlags {op : Operand} {v : Byte} {s t : State} (h : writeOperand op v s = .next t) :
    writeOperand op v (withInertFlags fi fd fb s) = .next (withInertFlags fi fd fb t) := by
  rcases writeOperand_next h with ⟨a, rfl, rfl⟩ | ⟨rfl, rfl⟩ | ⟨rfl, rfl⟩ | ⟨rfl, rfl⟩ <;> rfl

theorem branch_withInertFlags {c : Bool} {op : Operand} {s t : State} (h : branch c op s = .next t) :
    branch c op (withInertFlags fi fd fb s) = .next (withInertFlags fi fd fb t) := by
  obtain ⟨d, rfl, rfl⟩ := branch_next h
  cases c <;> rfl

/-! ### The handlers -/

/-- A handler but those of `PHP` and `BRK` carries the inert flags along, or writes them whatever they were. -/
theorem handler_withInertFlags {mn : Mnemonic} {op : Operand} {s t : State} (hmn : mn ∉ [.php, .brk])
    (h : handler mn op s = .next t) :
    ∃ gi gd gb, handler mn op (withInertFlags fi fd fb s) = .next (withInertFlags gi gd gb t) := by
  cases mn
  case php | brk => simp at hmn
  case adc | sbc | cmp | cpx | cpy | and | ora | eor | lda | ldx | ldy | bit =>
    obtain ⟨m, hm, h⟩ := readOperand_next h
    cases h
    exact ⟨fi, fd, fb, readOperand_some (by simpa using hm) _⟩
  case inc | dec | inx | iny | dex | dey | asl | lsr | rol | ror =>
    obtain ⟨m, hm, h⟩ := readOperand_next h
    exact ⟨fi, fd, fb, (readOperand_some (by simpa using hm) _).trans (writeOperand_withInertFlags fi fd fb h)⟩
  case sta | stx | sty => exact ⟨fi, fd, fb, writeOperand_withInertFlags fi fd fb h⟩
  case bcc | bcs | beq | bmi | bne | bpl | bvc | bvs => exact ⟨fi, fd, fb, branch_withInertFlags fi fd fb h⟩
  case jmp | jsr =>
    obtain ⟨a, rfl, h⟩ := withTarget_next h
    cases h; exact ⟨fi, fd, fb, rfl⟩
  case cli | sei => cases h; exact ⟨_, fd, fb, rfl⟩
  case cld | sed => cases h; exact ⟨fi, _, fb, rfl⟩
  case plp | rti => cases h; exact ⟨_, _, _, rfl⟩
  all_goals (cases h; exact ⟨fi, fd, fb, rfl⟩)

end

/-- Settles O32: neither the operand nor the handler sees the inert flags. -/
theorem inertFlagsAreNotRead : Obligations.InertFlagsAreNotRead := by
  intro i s fi fd fb hmn
  obtain ⟨t, ht⟩ := handler_answers i s { s with pc := s.pc + BitVec.ofNat 16 i.length }
  obtain ⟨gi, gd, gb, hu⟩ := handler_withInertFlags fi fd fb hmn ht
  rw [← operandOf_withInertFlags fi fd fb] at hu
  exact ⟨tick t, _, exec_next ht, exec_next hu, rfl⟩

end Sys2Proof.Machine
end

section
/-! PROOFS. The memory array: what a write changes, what a two-byte read is, and that canonical memories that read alike
are the same data. -/

namespace Sys2Proof.Machine

/-- Settles O17: the read law of the port, and a write touches memory alone. -/
theorem memWriteChangesOneByte : Obligations.MemWriteChangesOneByte :=
  fun s a b v => ⟨memRead_after_memWrite a b v s, rfl⟩

/-- Settles O18: the second address is `a + 1` as a 16-bit address. -/
theorem twoByteReadIsHighFirst : Obligations.TwoByteReadIsHighFirst := by
  intro s a b hb
  obtain rfl : b = a + 1 := BitVec.eq_of_toNat_eq (by simpa using hb)
  exact wordOf_toNat _ _

/-! ### Canonical memories -/

/-- What the canonical form asks of the first entry and of the rest. -/
theorem Memory.wfFrom_cons {lo k : Nat} {v : Byte} {rest : Memory} :
    Memory.wfFrom lo ((k, v) :: rest) = true ↔
      lo ≤ k ∧ k < Config.memSize ∧ v ≠ Config.unlistedByte ∧ Memory.wfFrom (k + 1) rest = true := by
  simp [Memory.wfFrom, and_assoc]

/-- A canonical memory lists nothing below its lower bound. -/
theorem Memory.read_of_lt {lo a : Nat} {m : Memory} (hm : Memory.wfFrom lo m = true) (ha : a < lo) :
    m.read a = Config.unlistedByte := by
  induction m generalizing lo with
  | nil => rfl
  | cons c rest ih =>
    obtain ⟨k, v⟩ := c
    obtain ⟨hlo, _, _, hrest⟩ := Memory.wfFrom_cons.1 hm
    rw [Memory.read, if_neg (by omega)]
    exact ih hrest (by omega)

/-- The first entry of a canonical memory stands at or below every location that reads as a listed byte. -/
theorem Memory.le_of_read_ne {lo k a : Nat} {v : Byte} {rest : Memory} (hm : Memory.wfFrom lo ((k, v) :: rest) = true)
    (ha : Memory.read ((k, v) :: rest) a ≠ Config.unlistedByte) : k ≤ a := by
  obtain ⟨_, hk, hv, hrest⟩ := Memory.wfFrom_cons.1 hm
  by_contra h
  exact ha (Memory.read_of_lt (Memory.wfFrom_cons.2 ⟨le_rfl, hk, hv, hrest⟩) (by omega))

/-- The first entry of a canonical memory is listed. -/
theorem Memory.read_head_ne {lo k : Nat} {v : Byte} {rest : Memory} (hm : Memory.wfFrom lo ((k, v) :: rest) = true) :
    k < Config.memSize ∧ Memory.read ((k, v) :: rest) k ≠ Config.unlistedByte := by
  obtain ⟨_, hk, hv, _⟩ := Memory.wfFrom_cons.1 hm
  exact ⟨hk, by simpa [Memory.read] using hv⟩

/-- Canonical memories that read alike are equal: their first entries stand at the same location with the same byte,
and beyond it the rests read alike. -/
theorem Memory.eq_of_read_eq {lo : Nat} {m n : Memory} (hm : Memory.wfFrom lo m = true)
    (hn : Memory.wfFrom lo n = true) (h : ∀ a < Config.memSize, m.read a = n.read a) : m = n := by
  induction m generalizing lo n with
  | nil =>
    cases n with
    | nil => rfl
    | cons d ns =>
      obtain ⟨hk, hd⟩ := Memory.read_head_ne hn
      exact absurd (h _ hk).symm hd
  | cons c ms ih =>
    cases n with
    | nil =>
      obtain ⟨hk, hc⟩ := Memory.read_head_ne hm
      exact absurd (h _ hk) hc
    | cons d ns =>
      obtain ⟨k, v⟩ := c
      obtain ⟨k', v'⟩ := d
      obtain ⟨hk, hc⟩ := Memory.read_head_ne hm
      obtain ⟨hk', hd⟩ := Memory.read_head_ne hn
      obtain rfl : k = k' :=
        le_antisymm (Memory.le_of_read_ne hm (h k' hk' ▸ hd)) (Memory.le_of_read_ne hn (h k hk ▸ hc))
      obtain ⟨_, _, _, hms⟩ := Memory.wfFrom_cons.1 hm
      obtain ⟨_, _, _, hns⟩ := Memory.wfFrom_cons.1 hn
      obtain rfl : v = v' := by simpa [Memory.read] using h k hk
      have hrest : ∀ a < Config.memSize, Memory.read ms a = Memory.read ns a := by
        intro a ha
        by_cases hak : k = a
        · rw [Memory.read_of_lt hms (by omega), Memory.read_of_lt hns (by omega)]
        · simpa [Memory.read, hak] using h a ha
      rw [ih hms hns hrest]

/-- Settles O19: extensionality of canonical memories, and the write law of the canonical form. -/
theorem equalBytesMeanEqualMemory : Obligations.EqualBytesMeanEqualMemory := by
  refine ⟨fun m n hm hn h => Memory.eq_of_read_eq hm hn fun a ha => ?_, fun s a v => memWrite_wf a v s⟩
  simpa [Nat.mod_eq_of_lt ha] using h (BitVec.ofNat 16 a)

end Sys2Proof.Machine
end

section
/-! PROOFS. The bytes of an instruction in memory: what was stored at ascending addresses is read back from them, and the
fetch decodes it. -/

namespace Sys2Proof.Machine

/-! ### Bytes at ascending addresses -/

@[simp] theorem storeBytes_pc (bytes : List Byte) (a : Addr) (s : State) : (storeBytes bytes a s).pc = s.pc := by
  induction bytes generalizing a s with
  | nil => rfl
  | cons b rest ih => exact ih _ _

@[simp] theorem storeBytes_halt (bytes : List Byte) (a : Addr) (s : State) : (storeBytes bytes a s).halt = s.halt := by
  induction bytes generalizing a s with
  | nil => rfl
  | cons b rest ih => exact ih _ _

/-- Storing bytes leaves every address alone that is not one of theirs (R41, R44). -/
theorem memRead_storeBytes {bytes : List Byte} {a b : Addr} (s : State)
    (h : ∀ k < bytes.length, b ≠ a + BitVec.ofNat 16 k) : memRead b (storeBytes bytes a s) = memRead b s := by
  induction bytes generalizing a s with
  | nil => rfl
  | cons v rest ih =>
    have hhead : b ≠ a := by simpa using h 0 (by simp)
    have htail : ∀ k < rest.length, b ≠ a + 1 + BitVec.ofNat 16 k := fun k hk e =>
      h (k + 1) (by simpa using hk) (by bv_omega)
    rw [storeBytes, ih _ htail, memRead_after_memWrite, if_neg hhead]

/-- Bytes stored at ascending addresses, no more than the array holds, are read back from them (R44). -/
theorem readBytes_storeBytes (bytes : List Byte) (a : Addr) (s : State) (h : bytes.length ≤ Config.memSize) :
    readBytes (storeBytes bytes a s) a bytes.length = bytes := by
  induction bytes generalizing a s with
  | nil => rfl
  | cons b rest ih =>
    have hlen : rest.length < 65536 := h
    have hlater : ∀ k < rest.length, a ≠ a + 1 + BitVec.ofNat 16 k := fun k hk => by bv_omega
    simp only [storeBytes, List.length_cons, readBytes, ih _ _ hlen.le, memRead_storeBytes _ hlater]
    simp [memRead_after_memWrite]

/-! ### The bytes of an instruction -/

/-- An instruction has as many bytes as its length says (R60). -/
theorem length_encode (i : Instr) : (encode i).length = i.length := by
  simp [encode, Instr.length, Mode.operandBytes, Nat.add_comm]

/-- The longest instruction has three bytes (R60). -/
theorem length_le_three (i : Instr) : i.length ≤ 3 := by
  cases h : i.mode <;> simp [Instr.length, Mode.operandBytes, Mode.bytes, h]

/-- A shape takes as many operand bytes as the instructions it spells have (R60). -/
theorem operandBytes_of_spells {sh : Shape} {i : Instr} (h : sh.spells i) : i.mode.operandBytes = sh.operandBytes := by
  cases sh with
  | f1 j => exact congrArg List.length h.2
  | f2 f => obtain ⟨b, _, hb⟩ := h; exact congrArg List.length hb
  | f3 f => obtain ⟨w, _, hb⟩ := h; exact congrArg List.length hb

/-- The length is known from the opcode byte alone (R69). -/
theorem lengthOf_opcode (i : Instr) : lengthOf i.opcode = i.length := by
  obtain ⟨sh, hsh, hi⟩ := shapeOf_opcode i
  simp [lengthOf, hsh, Instr.length, operandBytes_of_spells hi]

/-- The decoder reads back what the encoder wrote, for each of the three formats (R60, R82). -/
theorem decodeInstr_encode (i : Instr) : decodeInstr (encode i) = some i := by
  obtain ⟨sh, hsh, hi⟩ := shapeOf_opcode i
  cases sh with
  | f1 j =>
    obtain ⟨rfl, hb⟩ := hi
    simp [decodeInstr, encode, decode, hsh, hb]
  | f2 f =>
    obtain ⟨b, hf, hb⟩ := hi
    simp [decodeInstr, encode, decode, hsh, hb, hf]
  | f3 f =>
    obtain ⟨w, hf, hb⟩ := hi
    simp [decodeInstr, encode, decode, hsh, hb, wordOf_hi_lo, hf]

/-- The fetch reads an instruction from the bytes that stand at `PC` (R80 to R82). -/
theorem fetch_of_readBytes {i : Instr} {s : State} (h : readBytes s s.pc i.length = encode i) : fetch s = some i := by
  have hop : fetchOpcode s = i.opcode := by
    rw [Instr.length, Nat.add_comm, readBytes, encode] at h
    exact (List.cons.inj h).1
  rw [fetch, fetchBytes, hop, lengthOf_opcode, h, decodeInstr_encode]

/-- A core that has not halted runs the instruction it fetches (R80). -/
theorem step_of_fetch {i : Instr} {s : State} (hh : s.halt = false) (hf : fetch s = some i) : step s = exec i s := by
  simp [step, runStep, hh, hf]

/-- Settles O8: the stored bytes are read back at `PC`, and they decode to the instruction. -/
theorem storedInstructionIsRun : Obligations.StoredInstructionIsRun := by
  intro i s hh
  have hlen : (encode i).length ≤ Config.memSize :=
    (length_encode i).trans_le ((length_le_three i).trans (by decide))
  have hread := readBytes_storeBytes (encode i) s.pc s hlen
  rw [length_encode] at hread
  exact step_of_fetch (by simpa using hh) (fetch_of_readBytes (by simpa using hread))

end Sys2Proof.Machine
end

section
/-! PROOFS. The access list of an instruction: which of its accesses write, and that replaying them gives the memory the
instruction leaves. -/

namespace Sys2Proof.Machine

/-! ### The addresses an access list writes -/

@[simp] theorem writtenAddrs_append (k l : List Access) : writtenAddrs (k ++ l) = writtenAddrs k ++ writtenAddrs l := by
  induction k with
  | nil => rfl
  | cons c rest ih => cases c <;> simp [writtenAddrs, ih]

@[simp] theorem writtenAddrs_readsFrom (a : Addr) (n : Nat) : writtenAddrs (readsFrom a n) = [] := by
  induction n generalizing a with
  | zero => rfl
  | succ n ih => exact ih _

@[simp] theorem writtenAddrs_pointerAccesses (m : Mode) (s : State) : writtenAddrs (pointerAccesses m s) = [] := by
  cases m <;> rfl

@[simp] theorem writtenAddrs_operandReadAccess (op : Operand) : writtenAddrs (operandReadAccess op) = [] := by
  cases op <;> rfl

@[simp] theorem writtenAddrs_pullAccesses (sp : Byte) (n : Nat) : writtenAddrs (pullAccesses sp n) = [] := by
  induction n generalizing sp with
  | zero => rfl
  | succ n ih => exact ih _

/-- A modification writes where the plain write of the operand does (D21). -/
theorem writtenAddrs_modifyAccesses (op : Operand) (s : State) (f : Byte → Byte) (v : Byte) :
    writtenAddrs (modifyAccesses op s f) = writtenAddrs (operandWriteAccess op v) := by
  cases op <;> rfl

/-- Replaying changes no byte at an address that is not written (R41). -/
theorem read_replayWrites {l : List Access} {b : Addr} (m : Memory) (hb : b ∉ writtenAddrs l) :
    (replayWrites l m).read b.toNat = m.read b.toNat := by
  induction l generalizing m with
  | nil => rfl
  | cons c rest ih =>
    cases c with
    | read a => exact ih m hb
    | write a v =>
      obtain ⟨hne, hrest⟩ : b ≠ a ∧ b ∉ writtenAddrs rest := by simpa [writtenAddrs] using hb
      rw [replayWrites, ih _ hrest, Memory.read_write, if_neg (hne ∘ BitVec.eq_of_toNat_eq)]

/-- Replaying accesses that write nothing leaves memory as it is. -/
theorem replayWrites_of_writtenAddrs_eq_nil {l : List Access} (m : Memory) (hl : writtenAddrs l = []) :
    replayWrites l m = m := by
  induction l with
  | nil => rfl
  | cons c rest ih =>
    cases c with
    | read a => exact ih hl
    | write a v => simp [writtenAddrs] at hl

/-! ### The memory an instruction and a step leave -/

/-- The accesses of an instruction, by the state between steps (R46): its bytes, its pointer, its handler's. -/
theorem instrAccesses_eq (i : Instr) (s : State) : instrAccesses i s =
    readsFrom s.pc i.length ++ pointerAccesses i.mode s ++
      handlerAccesses i.mnemonic (operandOf i s) { s with pc := s.pc + BitVec.ofNat 16 i.length } := by
  have hptr : pointerAccesses i.mode (advancePc 1 s) = pointerAccesses i.mode s := by cases i.mode <;> rfl
  rw [instrAccesses, hptr, resolve_advancePc, advancePc_length]
  rfl

/-- The handler's accesses are the only ones that write. -/
theorem replayWrites_instrAccesses (i : Instr) (s : State) (m : Memory) : replayWrites (instrAccesses i s) m =
    replayWrites (handlerAccesses i.mnemonic (operandOf i s) { s with pc := s.pc + BitVec.ofNat 16 i.length }) m := by
  have hreads : writtenAddrs (readsFrom s.pc i.length ++ pointerAccesses i.mode s) = [] := by simp
  rw [instrAccesses_eq, replayWrites_append, replayWrites_of_writtenAddrs_eq_nil m hreads]

/-- An instruction answers, and memory is what its accesses replay to (R46, R49). -/
theorem exec_mem (i : Instr) (s : State) :
    ∃ t, exec i s = .next t ∧ t.mem = replayWrites (instrAccesses i s) s.mem := by
  obtain ⟨t, ht⟩ := handler_answers i s { s with pc := s.pc + BitVec.ofNat 16 i.length }
  exact ⟨tick t, exec_next ht, (handler_mem ht).trans (replayWrites_instrAccesses i s s.mem).symm⟩

/-- The accesses of a step that runs an instruction are the instruction's (R80). -/
theorem stepAccesses_of_fetch {i : Instr} {s : State} (hh : s.halt = false) (hf : fetch s = some i) :
    stepAccesses s = instrAccesses i s := by
  simp [stepAccesses, hh, hf]

/-- At an undefined opcode the step reads the opcode byte alone (R211). -/
theorem stepAccesses_of_undefined {s : State} (hh : s.halt = false) (hf : fetch s = none) :
    stepAccesses s = [.read s.pc] := by
  simp [stepAccesses, hh, hf]

/-- Settles O21, by the three kinds of step: the halted one, the instruction, the fault. -/
theorem accessListHoldsTheWrites : Obligations.AccessListHoldsTheWrites := by
  intro s
  rcases step_cases s with ⟨hh, h⟩ | ⟨hh, i, hf, h⟩ | ⟨hh, hf, h⟩
  · exact ⟨s, h, by rw [stepAccesses_of_halt hh]; rfl⟩
  · rw [h, stepAccesses_of_fetch hh hf]
    exact exec_mem i s
  · exact ⟨_, h, by rw [stepAccesses_of_undefined hh hf]; rfl⟩

/-! ### The addresses of each mnemonic -/

/-- The register increments have a register operand (R100). -/
theorem operandOf_registerIncrement {i : Instr} (h : i.mnemonic ∈ [.inx, .iny, .dex, .dey]) (s : State) :
    operandOf i s = .registerX ∨ operandOf i s = .registerY := by
  cases i <;> simp_all [operandOf, Instr.mnemonic, Instr.mode, resolve]

/-- A handler's accesses write where a plain write of the operand does if the mnemonic stores its result, on the stack
if it pushes, and nowhere else (R98, R191). -/
theorem writtenAddrs_handlerAccesses {mn : Mnemonic} {op : Operand} (s : State) (v : Byte)
    (hreg : mn ∈ [.inx, .iny, .dex, .dey] → op = .registerX ∨ op = .registerY) :
    writtenAddrs (handlerAccesses mn op s) =
      if mn ∈ [.sta, .stx, .sty, .inc, .dec, .asl, .lsr, .rol, .ror] then writtenAddrs (operandWriteAccess op v)
      else if mn ∈ [.pha, .php] then [stackAddr s.sp]
      else if mn = .jsr then [stackAddr s.sp, stackAddr (s.sp + 1)]
      else if mn = .brk then [stackAddr s.sp, stackAddr (s.sp + 1), stackAddr (s.sp + 1 + 1)]
      else [] := by
  cases mn
  case adc | sbc | cmp | cpx | cpy | and | ora | eor | lda | ldx | ldy | bit =>
    exact writtenAddrs_operandReadAccess op
  case inc | dec | asl | lsr | rol | ror => exact writtenAddrs_modifyAccesses op s _ v
  case sta | stx | sty => cases op <;> rfl
  case inx | iny | dex | dey => obtain rfl | rfl := hreg (by simp) <;> rfl
  all_goals rfl

/-- Settles O20: replaying leaves alone what is not written, and the handler's accesses are the only ones that write. -/
theorem onlyListedAddressesAreWritten : Obligations.OnlyListedAddressesAreWritten := by
  refine ⟨fun i s => ?_, fun i s => ?_⟩
  · obtain ⟨t, ht, hm⟩ := exec_mem i s
    exact ⟨t, ht, fun b hb => (congrArg (Memory.read · b.toNat) hm).trans (read_replayWrites s.mem hb)⟩
  · have hwritten : writtenAddrs (instrAccesses i s) = writtenAddrs (handlerAccesses i.mnemonic (operandOf i s)
        { s with pc := s.pc + BitVec.ofNat 16 i.length }) := by simp [instrAccesses_eq]
    rw [hwritten, writtenAddrs_handlerAccesses _ 0x00 fun h => operandOf_registerIncrement h s]
    cases operandOf i s <;> rfl

end Sys2Proof.Machine
end

section
/-! PROOFS. A step and the bytes it reads: in another memory that agrees at the addresses the access list reads, every
part of a step does the same. -/

namespace Sys2Proof.Machine

/-- The same registers and flags over another memory. -/
def inMemory (m : Memory) (s : State) : State := { s with mem := m }

@[simp] theorem inMemory_sp (m : Memory) (s : State) : (inMemory m s).sp = s.sp := rfl
@[simp] theorem inMemory_pc (m : Memory) (s : State) : (inMemory m s).pc = s.pc := rfl

/-- Another memory holds the state's byte at every address that the accesses read. -/
def AgreeOnReads (l : List Access) (m : Memory) (s : State) : Prop :=
  ∀ a ∈ readAddrs l, memRead a (inMemory m s) = memRead a s

theorem readAddrs_append (k l : List Access) : readAddrs (k ++ l) = readAddrs k ++ readAddrs l := by
  induction k with
  | nil => rfl
  | cons c rest ih => cases c <;> simp [readAddrs, ih]

theorem agreeOnReads_append {k l : List Access} {m : Memory} {s : State} :
    AgreeOnReads (k ++ l) m s ↔ AgreeOnReads k m s ∧ AgreeOnReads l m s := by
  simp [AgreeOnReads, readAddrs_append, or_imp, forall_and]

theorem agreeOnReads_cons {a : Addr} {l : List Access} {m : Memory} {s : State} :
    AgreeOnReads (.read a :: l) m s ↔ memRead a (inMemory m s) = memRead a s ∧ AgreeOnReads l m s := by
  simp [AgreeOnReads, readAddrs]

section

variable {s : State} {m : Memory}

/-! ### The fetch and the operand -/

theorem read16_of_agree {a : Addr} (h : AgreeOnReads (read16Accesses a) m s) :
    read16 a (inMemory m s) = read16 a s := by
  obtain ⟨hhi, h⟩ := agreeOnReads_cons.1 h
  obtain ⟨hlo, _⟩ := agreeOnReads_cons.1 h
  exact congrArg₂ wordOf hhi hlo

theorem readBytes_of_agree {a : Addr} {n : Nat} (h : AgreeOnReads (readsFrom a n) m s) :
    readBytes (inMemory m s) a n = readBytes s a n := by
  induction n generalizing a with
  | zero => rfl
  | succ n ih =>
    obtain ⟨hhead, htail⟩ := agreeOnReads_cons.1 h
    exact congrArg₂ List.cons hhead (ih htail)

/-- The fetch reads the bytes of the instruction it finds (R81, R84). -/
theorem fetch_of_agree {i : Instr} (hf : fetch s = some i) (h : AgreeOnReads (readsFrom s.pc i.length) m s) :
    fetch (inMemory m s) = some i := by
  have hop : fetchOpcode (inMemory m s) = fetchOpcode s := by
    rw [Instr.length, Nat.add_comm] at h
    exact (agreeOnReads_cons.1 h).1
  rw [← fetch_length hf] at h
  rw [fetch, fetchBytes, hop, inMemory_pc, readBytes_of_agree h]
  exact hf

/-- A mode reads its pointer bytes and no others to find its operand (R84, R90, R91, R95). -/
theorem operandOf_of_agree {i : Instr} (h : AgreeOnReads (pointerAccesses i.mode s) m s) :
    operandOf i (inMemory m s) = operandOf i s := by
  unfold operandOf
  cases hmode : i.mode <;> rw [hmode] at h
  case indy b => exact congrArg (fun w => Operand.memory (zext16 (loByte (w + zext16 s.y)))) (read16_of_agree h)
  case zpxi b => exact congrArg Operand.memory (read16_of_agree h)
  case ind p => exact congrArg Operand.target (read16_of_agree h)
  all_goals rfl

/-- An operand in memory is read at its one address (R97). -/
theorem operandRead_of_agree {op : Operand} (h : AgreeOnReads (operandReadAccess op) m s) :
    operandRead op (inMemory m s) = operandRead op s := by
  cases op with
  | memory a => exact congrArg some (agreeOnReads_cons.1 h).1
  | _ => rfl

/-- A modification reads its operand (D21). -/
theorem operandRead_of_agree_modify {op : Operand} {f : Byte → Byte} (h : AgreeOnReads (modifyAccesses op s f) m s) :
    operandRead op (inMemory m s) = operandRead op s := by
  cases op with
  | memory a => exact operandRead_of_agree (agreeOnReads_append.1 h).1
  | _ => rfl

theorem modifyAccesses_of_agree {op : Operand} {f : Byte → Byte} (h : AgreeOnReads (modifyAccesses op s f) m s) :
    modifyAccesses op (inMemory m s) f = modifyAccesses op s f := by
  simp only [modifyAccesses, operandRead_of_agree_modify h]

/-! ### The handlers -/

/-- Storing a result reads nothing: in any memory it makes the same write (R98). -/
theorem writeOperand_inMemory {op : Operand} {v : Byte} {t : State} (m : Memory) (h : writeOperand op v s = .next t) :
    writeOperand op v (inMemory m s) = .next (inMemory (replayWrites (operandWriteAccess op v) m) t) := by
  rcases writeOperand_next h with ⟨a, rfl, rfl⟩ | ⟨rfl, rfl⟩ | ⟨rfl, rfl⟩ | ⟨rfl, rfl⟩ <;> rfl

/-- A branch neither reads nor writes (R170). -/
theorem branch_inMemory {c : Bool} {op : Operand} {t : State} (m : Memory) (h : branch c op s = .next t) :
    branch c op (inMemory m s) = .next (inMemory m t) := by
  obtain ⟨d, rfl, rfl⟩ := branch_next h
  cases c <;> rfl

/-- The return reads the three bytes it pulls (R199). -/
theorem returnFromBreak_of_agree (h : AgreeOnReads (pullAccesses s.sp 3) m s) :
    returnFromBreak (inMemory m s) = inMemory m (returnFromBreak s) := by
  obtain ⟨hstatus, h⟩ := agreeOnReads_cons.1 h
  obtain ⟨hlo, h⟩ := agreeOnReads_cons.1 h
  obtain ⟨hhi, _⟩ := agreeOnReads_cons.1 h
  simp only [returnFromBreak_eq, inMemory_sp, hstatus, hlo, hhi]
  rfl

/-- The return address of a subroutine is read from the two bytes pulled (R193). -/
theorem pullWord_of_agree (h : AgreeOnReads (pullAccesses s.sp 2) m s) : pullWord (inMemory m s) = pullWord s := by
  obtain ⟨hlo, h⟩ := agreeOnReads_cons.1 h
  obtain ⟨hhi, _⟩ := agreeOnReads_cons.1 h
  exact congrArg₂ wordOf hhi hlo

/-- The accesses of a handler are the same in a memory that agrees where they read. -/
theorem handlerAccesses_of_agree {mn : Mnemonic} {op : Operand} (h : AgreeOnReads (handlerAccesses mn op s) m s) :
    handlerAccesses mn op (inMemory m s) = handlerAccesses mn op s := by
  cases mn
  case inc | dec | inx | iny | dex | dey | asl | lsr | rol | ror => exact modifyAccesses_of_agree h
  all_goals rfl

/-- A handler does the same in a memory that agrees where it reads, and makes the same writes there. -/
theorem handler_of_agree {mn : Mnemonic} {op : Operand} {t : State} (ht : handler mn op s = .next t)
    (h : AgreeOnReads (handlerAccesses mn op s) m s) :
    handler mn op (inMemory m s) = .next (inMemory (replayWrites (handlerAccesses mn op s) m) t) := by
  cases mn
  case adc | sbc | cmp | cpx | cpy | and | ora | eor | lda | ldx | ldy | bit =>
    obtain ⟨b, hb, ht⟩ := readOperand_next ht
    cases ht
    rw [handlerAccesses, replayWrites_operandReadAccess]
    exact readOperand_some ((operandRead_of_agree h).trans hb) _
  case inc | dec | inx | iny | dex | dey | asl | lsr | rol | ror =>
    obtain ⟨b, hb, ht⟩ := readOperand_next ht
    rw [handlerAccesses, replayWrites_modifyAccesses hb]
    exact (readOperand_some ((operandRead_of_agree_modify h).trans hb) _).trans (writeOperand_inMemory m ht)
  case sta | stx | sty => exact writeOperand_inMemory m ht
  case bcc | bcs | beq | bmi | bne | bpl | bvc | bvs => exact branch_inMemory m ht
  case jmp | jsr =>
    obtain ⟨a, rfl, ht⟩ := withTarget_next ht
    cases ht; rfl
  case pla | plp =>
    cases ht
    have hbyte : pullByte (inMemory m s) = pullByte s := (agreeOnReads_cons.1 h).1
    simp only [handler, plaHandler, plpHandler, hbyte]
    rfl
  case rts =>
    cases ht
    simp only [handler, rtsHandler, pullWord_of_agree h]
    rfl
  case rti =>
    cases ht
    exact congrArg Host.Outcome.next (returnFromBreak_of_agree h)
  case brk =>
    cases ht
    have hvector : read16 Config.brkVector (inMemory m s) = read16 Config.brkVector s :=
      read16_of_agree (agreeOnReads_append.1 h).2
    simp only [handler, brkHandler, takeBreak_eq, hvector]
    rfl
  all_goals (cases ht; rfl)

/-! ### The instruction and the step -/

/-- An instruction makes the same accesses in a memory that agrees where they read. -/
theorem instrAccesses_of_agree {i : Instr} (h : AgreeOnReads (instrAccesses i s) m s) :
    instrAccesses i (inMemory m s) = instrAccesses i s := by
  rw [instrAccesses_eq, agreeOnReads_append, agreeOnReads_append] at h
  obtain ⟨⟨_, hptr⟩, hhandler⟩ := h
  have hptr' : pointerAccesses i.mode (inMemory m s) = pointerAccesses i.mode s := by cases i.mode <;> rfl
  rw [instrAccesses_eq, instrAccesses_eq, operandOf_of_agree hptr, hptr', ← handlerAccesses_of_agree hhandler]
  rfl

/-- An instruction answers the same in a memory that agrees where it reads, but for the memory, which is that one with
the same writes. -/
theorem exec_of_agree {i : Instr} (h : AgreeOnReads (instrAccesses i s) m s) :
    ∃ t, exec i s = .next t ∧ exec i (inMemory m s) = .next (inMemory (replayWrites (instrAccesses i s) m) t) := by
  rw [instrAccesses_eq, agreeOnReads_append, agreeOnReads_append] at h
  obtain ⟨⟨_, hptr⟩, hhandler⟩ := h
  obtain ⟨t, ht⟩ := handler_answers i s { s with pc := s.pc + BitVec.ofNat 16 i.length }
  refine ⟨tick t, exec_next ht, ?_⟩
  rw [replayWrites_instrAccesses]
  exact exec_next (s := inMemory m s) (by rw [operandOf_of_agree hptr]; exact handler_of_agree ht hhandler)

end

/-- A running core that finds an undefined opcode records it (R211). -/
theorem step_of_undefined {s : State} (hh : s.halt = false) (hf : fetch s = none) :
    step s = .next (raiseUndefinedOpcode (fetchOpcode s) s.pc s) := by
  simp [step, runStep, hh, hf]

/-- Settles O22, by the three kinds of step: the halted one, the instruction, the fault. -/
theorem stepDependsOnlyOnItsReads : Obligations.StepDependsOnlyOnItsReads := by
  intro s m (h : AgreeOnReads (stepAccesses s) m s)
  change stepAccesses (inMemory m s) = stepAccesses s ∧
    ∃ t, step s = .next t ∧ step (inMemory m s) = .next (inMemory (replayWrites (stepAccesses s) m) t)
  rcases step_cases s with ⟨hh, hs⟩ | ⟨hh, i, hf, hs⟩ | ⟨hh, hf, hs⟩
  · rw [stepAccesses_of_halt hh]
    exact ⟨stepAccesses_of_halt hh, s, hs, step_of_halt hh⟩
  · rw [stepAccesses_of_fetch hh hf] at h ⊢
    have hh' : (inMemory m s).halt = false := hh
    have hf' := fetch_of_agree hf (agreeOnReads_append.1 (agreeOnReads_append.1 h).1).1
    rw [stepAccesses_of_fetch hh' hf', hs, step_of_fetch hh' hf']
    exact ⟨instrAccesses_of_agree h, exec_of_agree h⟩
  · rw [stepAccesses_of_undefined hh hf] at h ⊢
    have hh' : (inMemory m s).halt = false := hh
    have hop : fetchOpcode (inMemory m s) = fetchOpcode s := (agreeOnReads_cons.1 h).1
    have hf' : fetch (inMemory m s) = none := by rwa [fetch_eq_none, hop, ← fetch_eq_none]
    rw [stepAccesses_of_undefined hh' hf', step_of_undefined hh' hf', hop]
    exact ⟨rfl, _, hs, rfl⟩

end Sys2Proof.Machine
end

section
/-! PROOFS. The encoding: what the decoder answers, said once as an equivalence with the map of R66, both round trips,
the formats, the undefined bytes, and what the opcode byte says of the operand. -/

namespace Sys2Proof.Machine

/-! ### What the decoder answers -/

/-- An instruction spelled under a byte of the map has that opcode byte (R66). -/
theorem opcode_of_spells {op : Byte} {sh : Shape} {i : Instr} (hsh : shapeOf op = some sh) (hi : sh.spells i) :
    i.opcode = op := by
  have hfits := shapeOf_fits hsh
  cases sh with
  | f1 j => obtain ⟨rfl, _⟩ := hi; exact hfits.1
  | f2 f => obtain ⟨b, rfl, _⟩ := hi; exact (hfits b).1
  | f3 f => obtain ⟨w, rfl, _⟩ := hi; exact (hfits w).1

/-- The decoder answers an instruction exactly where the bytes are an opcode byte whose shape spells it, its operand
bytes, and what is left (R60, R65, R82). -/
theorem decode_eq_ok_iff {bytes rest : List Byte} {i : Instr} :
    decode bytes = .ok (i, rest) ↔
      ∃ op sh, shapeOf op = some sh ∧ sh.spells i ∧ bytes = op :: (i.mode.bytes ++ rest) := by
  constructor
  · intro h
    cases bytes with
    | nil => cases h
    | cons op tail =>
      cases hsh : shapeOf op with
      | none => simp [decode, hsh] at h
      | some sh =>
        have hfits := shapeOf_fits hsh
        refine ⟨op, sh, hsh, ?_⟩
        cases sh with
        | f1 j =>
          simp only [decode, hsh] at h
          cases h
          exact ⟨⟨rfl, hfits.2⟩, by simp [hfits.2]⟩
        | f2 f =>
          match tail with
          | [] => simp [decode, hsh] at h
          | b :: tail =>
            simp only [decode, hsh] at h
            cases h
            exact ⟨⟨b, rfl, (hfits b).2⟩, by simp [(hfits b).2]⟩
        | f3 f =>
          match tail with
          | [] | [_] => simp [decode, hsh] at h
          | hi :: lo :: tail =>
            simp only [decode, hsh] at h
            cases h
            exact ⟨⟨wordOf hi lo, rfl, (hfits _).2⟩, by simp [(hfits _).2]⟩
  · rintro ⟨op, sh, hsh, hi, rfl⟩
    cases sh with
    | f1 j =>
      obtain ⟨rfl, hb⟩ := hi
      simp [decode, hsh, hb]
    | f2 f =>
      obtain ⟨b, hf, hb⟩ := hi
      simp [decode, hsh, hb, hf]
    | f3 f =>
      obtain ⟨w, hf, hb⟩ := hi
      simp [decode, hsh, hb, wordOf_hi_lo, hf]

/-- Settles O2: the map holds every instruction under its opcode byte. -/
theorem decodeReadsBackEncode : Obligations.DecodeReadsBackEncode := by
  intro i rest
  obtain ⟨sh, hsh, hi⟩ := shapeOf_opcode i
  exact decode_eq_ok_iff.2 ⟨i.opcode, sh, hsh, hi, rfl⟩

/-- Settles O3: the byte under which an instruction was found is its opcode byte. -/
theorem encodeRestoresDecodedBytes : Obligations.EncodeRestoresDecodedBytes := by
  intro bytes rest i h
  obtain ⟨op, sh, hsh, hi, rfl⟩ := decode_eq_ok_iff.1 h
  rw [encode, opcode_of_spells hsh hi, List.cons_append]

/-- Settles O1: each word is the encoding of its instruction. -/
theorem decodesTheSpecsWords : Obligations.DecodesTheSpecsWords :=
  ⟨decodeInstr_encode .inx, decodeInstr_encode .aslAcc, decodeInstr_encode (.ldaImm 0x10),
    decodeInstr_encode (.ldaZp 0x10), decodeInstr_encode (.ldaZpxd 0x10), decodeInstr_encode (.ldaZpxi 0x10),
    decodeInstr_encode (.ldaIndy 0x10), decodeInstr_encode (.ldaAbs 0x1234), decodeInstr_encode (.ldxAbsx 0x1234),
    decodeInstr_encode (.ldaAbsy 0x1234), decodeInstr_encode (.jmpInd 0x1234), decodeInstr_encode (.bne 0xF9),
    decodeInstr_encode (.adcImm 0x50), decodeInstr_encode (.bitZp 0x10), decodeInstr_encode .txs,
    decodeInstr_encode (.jsr 0x2000), decodeInstr_encode .brk⟩

/-! ### The formats -/

/-- The modes of format F1 have no operand byte (R60). -/
theorem bytes_of_format1 {m : Mode} (h : m.id ∈ [.imp, .acc, .regx, .regy]) : m.bytes = [] := by
  cases m <;> simp_all [Mode.id, Mode.bytes]

/-- The modes of format F2 have one operand byte (R60). -/
theorem bytes_of_format2 {m : Mode} (h : m.id ∈ [.imm, .zp, .zpxd, .zpxi, .indy, .rel]) : ∃ b, m.bytes = [b] := by
  cases m <;> simp_all [Mode.id, Mode.bytes]

/-- The modes of format F3 have a 16-bit operand, whose high byte comes first (R60, R65). -/
theorem bytes_of_format3 {m : Mode} (h : m.id ∈ [.abs, .absx, .absy, .ind]) :
    ∃ w, m ∈ [.abs w, .absx w, .absy w, .ind w] ∧ m.bytes = [hiByte w, loByte w] := by
  cases m <;> simp_all [Mode.id, Mode.bytes]

/-- Whatever its operand is, an instruction has the mnemonic and the mode that its opcode byte spells before operand
bytes 0 (R60). -/
theorem mnemonic_mode_of_opcode (i : Instr) :
    (decodeInstr [i.opcode, 0x00, 0x00]).map (fun j => (j.mnemonic, j.mode.id)) = some (i.mnemonic, i.mode.id) := by
  cases i <;> dsimp only [Instr.opcode] <;> rfl

/-- The decoder gets the length of an instruction from its opcode byte (R60, R69). -/
theorem lengthOf_opcode_eq_length_encode (i : Instr) : lengthOf i.opcode = (encode i).length :=
  (lengthOf_opcode i).trans (length_encode i).symm

/-- Settles O6: the operand bytes of each format, and the three things that are functions of the opcode byte. -/
theorem instructionFormats : Obligations.InstructionFormats := by
  refine ⟨fun i h => ?_, fun i h => ?_, fun i h => ?_, fun i j h => ?_, lengthOf_opcode_eq_length_encode⟩
  · rw [encode, bytes_of_format1 h]
  · obtain ⟨b, hb⟩ := bytes_of_format2 h
    exact ⟨b, by rw [encode, hb]⟩
  · obtain ⟨w, hw, hb⟩ := bytes_of_format3 h
    exact ⟨w, hiByte w, loByte w, hw, by rw [← wordOf_toNat, wordOf_hi_lo], by rw [encode, hb]⟩
  · have hrow : (i.mnemonic, i.mode.id) = (j.mnemonic, j.mode.id) :=
      Option.some.inj (by rw [← mnemonic_mode_of_opcode i, h, mnemonic_mode_of_opcode j])
    obtain ⟨hmnemonic, hmode⟩ := Prod.mk.inj hrow
    exact ⟨hmnemonic, hmode, by rw [← lengthOf_opcode_eq_length_encode, h, lengthOf_opcode_eq_length_encode]⟩

/-! ### The undefined bytes -/

/-- The 256 bytes in ascending order. -/
def allBytes : List Byte := (List.finRange 256).map BitVec.ofFin

@[simp] theorem mem_allBytes (b : Byte) : b ∈ allBytes :=
  List.mem_map.2 ⟨b.toFin, List.mem_finRange _, rfl⟩

theorem nodup_allBytes : allBytes.Nodup :=
  (List.nodup_finRange 256).map fun _ _ h => congrArg BitVec.toFin h

/-- The list of R67 holds, in ascending order, the bytes under which the map has no entry. -/
theorem undefinedBytes_eq : undefinedBytes = allBytes.filter undefinedOpcode := by
  decide

/-- The map has no entry for exactly the listed bytes (R67). -/
theorem undefinedOpcode_iff (b : Byte) : undefinedOpcode b = true ↔ b ∈ undefinedBytes := by
  simp [undefinedBytes_eq]

/-- Nothing that begins with an undefined byte decodes (R67). -/
theorem decode_of_undefinedOpcode {b : Byte} (h : undefinedOpcode b = true) (rest : List Byte) :
    decode (b :: rest) = .error (.undefinedOpcode b) := by
  simp [decode, Option.isNone_iff_eq_none.1 h]

/-- Settles O9: the list is what the map leaves out, and on such a byte the fetch fails. -/
theorem undefinedOpcodeHalts : Obligations.UndefinedOpcodeHalts := by
  refine ⟨rfl, ?_, undefinedOpcode_iff, fun b rest hb => ?_, fun s hh hb => ?_⟩
  · rw [undefinedBytes_eq]
    exact nodup_allBytes.filter _
  · exact decode_of_undefinedOpcode ((undefinedOpcode_iff b).2 hb) rest
  · exact step_of_undefined hh ((fetch_eq_none s).2 ((undefinedOpcode_iff _).2 hb))

/-! ### What the opcode byte says of the operand -/

/-- Settles O4, instruction by instruction: its group leaves the operand-consuming ones, whose row of R66 agrees with
the path of its fields. -/
theorem fieldBitsGiveTheMode : Obligations.FieldBitsGiveTheMode := by
  intro i hgroup
  cases i <;> cases hgroup <;> dsimp only [Instr.opcode] <;> rfl

/-- Settles O5, instruction by instruction: its group leaves the implied ones, whose row of R66 has the form of R64. -/
theorem impliedFormsPerOpcode : Obligations.ImpliedFormsPerOpcode := by
  intro i hgroup
  cases i <;> cases hgroup <;> dsimp only [Instr.opcode] <;> rfl

end Sys2Proof.Machine
end

section
/-! PROOFS. The step and its operands: `PC` passes every instruction that transfers no control, a step runs what the
bytes at `PC` decode to, and what each mode resolves to, reads and writes. -/

namespace Sys2Proof.Machine

/-! ### `PC` after an instruction -/

/-- Storing a result does not move `PC` (R98). -/
theorem writeOperand_pc {op : Operand} {v : Byte} {s t : State} (h : writeOperand op v s = .next t) : t.pc = s.pc := by
  rcases writeOperand_next h with ⟨a, _, rfl⟩ | ⟨_, rfl⟩ | ⟨_, rfl⟩ | ⟨_, rfl⟩ <;> rfl

/-- The handlers that transfer no control leave `PC` where the operand fetch put it. -/
theorem handler_pc {mn : Mnemonic} {op : Operand} {s t : State}
    (hmn : mn ∉ [.bcc, .bcs, .beq, .bmi, .bne, .bpl, .bvc, .bvs, .jmp, .jsr, .rts, .brk, .rti])
    (h : handler mn op s = .next t) : t.pc = s.pc := by
  cases mn
  case bcc | bcs | beq | bmi | bne | bpl | bvc | bvs | jmp | jsr | rts | brk | rti => simp at hmn
  case adc | sbc | cmp | cpx | cpy | and | ora | eor | lda | ldx | ldy | bit =>
    obtain ⟨m, _, h⟩ := readOperand_next h
    cases h; rfl
  case inc | dec | inx | iny | dex | dey | asl | lsr | rol | ror =>
    obtain ⟨m, _, h⟩ := readOperand_next h
    simpa using writeOperand_pc h
  case sta | stx | sty => exact writeOperand_pc h
  all_goals (cases h; rfl)

/-- The length of an instruction, by the format of its mode (R60). -/
theorem length_by_format (i : Instr) : i.length =
    if i.mode.id ∈ [.imp, .acc, .regx, .regy] then 1
    else if i.mode.id ∈ [.imm, .zp, .zpxd, .zpxi, .indy, .rel] then 2 else 3 := by
  rw [Instr.length]
  cases i.mode <;> rfl

/-- Settles O13: the handler leaves `PC` past the instruction's bytes, and the format gives their number. -/
theorem pcPassesTheInstruction : Obligations.PcPassesTheInstruction := by
  intro i s hmn
  obtain ⟨t, ht⟩ := handler_answers i s { s with pc := s.pc + BitVec.ofNat 16 i.length }
  have hpc : t.pc = s.pc + BitVec.ofNat 16 i.length := handler_pc hmn ht
  refine ⟨tick t, exec_next ht, hpc.trans ?_⟩
  rw [length_by_format, apply_ite (BitVec.ofNat 16), apply_ite (BitVec.ofNat 16)]
  rfl

/-! ### The step and the decoder -/

/-- Reading fewer bytes gives the first of them (R44). -/
theorem readBytes_eq_take (s : State) (a : Addr) {k n : Nat} (h : k ≤ n) :
    readBytes s a k = (readBytes s a n).take k := by
  induction k generalizing a n with
  | zero => rfl
  | succ k ih =>
    obtain ⟨n, rfl⟩ := Nat.exists_eq_succ_of_ne_zero (Nat.ne_zero_of_lt h)
    exact congrArg (memRead a s :: ·) (ih (a + 1) (Nat.le_of_succ_le_succ h))

theorem readBytes_three (s : State) (a : Addr) :
    readBytes s a 3 = [memRead a s, memRead (a + 1) s, memRead (a + 2) s] := by
  rw [show a + 2 = a + 1 + 1 from (add_assoc a 1 1).symm]
  rfl

/-- What the decoder makes of the three bytes at `PC` is what the fetch finds, which reads no more of them than the
instruction has (R69, R82). -/
theorem fetch_of_decode {s : State} {i : Instr} {rest : List Byte}
    (h : decode (readBytes s s.pc 3) = .ok (i, rest)) : fetch s = some i := by
  have hbytes : readBytes s s.pc 3 = encode i ++ rest := encodeRestoresDecodedBytes _ _ _ h
  apply fetch_of_readBytes
  rw [readBytes_eq_take s s.pc (length_le_three i), hbytes, ← length_encode, List.take_left]

/-- Settles O7: the fetch finds the decoded instruction, and a running core runs what it fetches. -/
theorem stepRunsTheDecodedInstruction : Obligations.StepRunsTheDecodedInstruction := by
  intro s i rest hh h
  rw [← readBytes_three] at h
  exact step_of_fetch hh (fetch_of_decode h)

/-! ### The modes of the mnemonics -/

/-- Every instruction stands in the by-mnemonic table (R66). -/
theorem form_listed (i : Instr) : i.form.listed = true := by
  cases i <;> rfl

theorem mode_id_mem_modes (i : Instr) : i.mode.id ∈ i.mnemonic.modes :=
  List.contains_iff_mem.1 (form_listed i)

/-- The mnemonics with an immediate form: loads, compares, `ADC`, `SBC`, logic (R85). -/
theorem mem_of_imm_mem_modes {mn : Mnemonic} (h : .imm ∈ mn.modes) :
    mn ∈ [.lda, .ldx, .ldy, .cmp, .cpx, .cpy, .adc, .sbc, .and, .ora, .eor] := by
  cases mn <;> revert h <;> decide

/-- The branches alone have the relative form (R94). -/
theorem mem_of_rel_mem_modes {mn : Mnemonic} (h : .rel ∈ mn.modes) :
    mn ∈ [.bcc, .bcs, .beq, .bmi, .bne, .bpl, .bvc, .bvs] := by
  cases mn <;> revert h <;> decide

/-- A branch has no other form (R94). -/
theorem modes_of_branch {mn : Mnemonic} (h : mn ∈ [.bcc, .bcs, .beq, .bmi, .bne, .bpl, .bvc, .bvs]) :
    mn.modes = [.rel] := by
  cases mn <;> revert h <;> decide

/-- The accumulator forms are the four shifts' (R88). -/
theorem mode_eq_acc_iff (i : Instr) : i.mode = .acc ↔ i.opcode ∈ [0x0A, 0x2A, 0x4A, 0x6A] := by
  cases i <;> simp [Instr.mode, Instr.opcode]

/-- The relative form is the branches' (R94). -/
theorem mode_id_eq_rel_iff (i : Instr) :
    i.mode.id = .rel ↔ i.mnemonic ∈ [.bcc, .bcs, .beq, .bmi, .bne, .bpl, .bvc, .bvs] := by
  have hmem := mode_id_mem_modes i
  constructor
  · intro h
    exact mem_of_rel_mem_modes (h ▸ hmem)
  · intro h
    rw [modes_of_branch h] at hmem
    exact List.mem_singleton.1 hmem

/-! ### Resolved addresses as numbers -/

@[simp] theorem zext16_toNat (b : Byte) : (zext16 b).toNat = b.toNat :=
  BitVec.toNat_setWidth_of_le (by decide)

@[simp] theorem loByte_toNat (w : Addr) : (loByte w).toNat = w.toNat % 256 := by
  simp [loByte]

/-- An indexed address wraps at 65536 (R92, R93). -/
theorem add_zext16_toNat (w : Addr) (b : Byte) : (w + zext16 b).toNat = (w.toNat + b.toNat) % 65536 := by
  rw [BitVec.toNat_add, zext16_toNat]

/-- `Read16` is high byte first (R42). -/
theorem read16_toNat (a : Addr) (s : State) :
    (read16 a s).toNat = (memRead a s).toNat * 256 + (memRead (a + 1) s).toNat := wordOf_toNat _ _

/-- Of the sum of the base and `Y` the low eight bits survive, so its own wrap cannot be seen (R90). -/
theorem indirectY_toNat (b : Byte) (s : State) : (indirectY b s).toNat =
    ((memRead (zext16 b) s).toNat * 256 + (memRead (zext16 b + 1) s).toNat + s.y.toNat) % 256 := by
  rw [indirectY, zext16_toNat, loByte_toNat, BitVec.toNat_add, read16_toNat, zext16_toNat]
  exact Nat.mod_mod_of_dvd _ (by decide)

/-- Sign extension keeps the signed value (R94). -/
theorem sext16_toInt (b : Byte) : (sext16 b).toInt = b.toInt :=
  BitVec.toInt_signExtend_of_le (by decide)

/-! ### What each mode resolves to -/

/-- Settles O14: the forms by the by-mnemonic table, the operands by the resolver's equations. -/
theorem resolverFollowsTheDocumentsPaths : Obligations.ResolverFollowsTheDocumentsPaths := by
  refine ⟨fun i h => mem_of_imm_mem_modes (h ▸ mode_id_mem_modes i), mode_eq_acc_iff, mode_id_eq_rel_iff, rfl, ?_⟩
  intro g s b w
  refine ⟨⟨rfl, rfl, rfl⟩, ⟨rfl, rfl, rfl⟩, ⟨rfl, rfl, rfl⟩, ⟨rfl, rfl, rfl⟩, ⟨rfl, rfl, rfl, rfl⟩,
    ?indy, ?zpxi, ?rel, ⟨rfl, rfl, rfl⟩⟩
  case indy => exact ⟨indirectY b s, rfl, indirectY_toNat b s, rfl, rfl⟩
  case zpxi => exact ⟨indirectX b s, zeroPageX b s, rfl, rfl, read16_toNat _ s, rfl, rfl⟩
  case rel => exact ⟨sext16 b, rfl, sext16_toInt b, rfl, rfl⟩

/-- Settles O15: sums of 16-bit addresses wrap, and the pointer is a two-byte read. -/
theorem indexedAbsoluteAndIndirect : Obligations.IndexedAbsoluteAndIndirect := by
  intro g s w
  exact ⟨⟨w + zext16 s.y, rfl, add_zext16_toNat w s.y⟩, ⟨w + zext16 s.x, rfl, add_zext16_toNat w s.x⟩,
    ⟨read16 w s, rfl, read16_toNat w s⟩, rfl, rfl⟩

/-! ### Reading and writing an operand -/

@[simp] theorem readAddrs_operandWriteAccess (op : Operand) (v : Byte) : readAddrs (operandWriteAccess op v) = [] := by
  cases op <;> rfl

@[simp] theorem readAddrs_pushAccesses (sp : Byte) (bytes : List Byte) : readAddrs (pushAccesses sp bytes) = [] := by
  induction bytes generalizing sp with
  | nil => rfl
  | cons b rest ih => exact ih _

/-- The stores and jumps read nothing: a store writes its operand, `JSR` pushes, `JMP` does neither (R46). -/
theorem readAddrs_handlerAccesses_eq_nil {mn : Mnemonic} (op : Operand) (s : State)
    (h : mn ∈ [.sta, .stx, .sty, .jmp, .jsr]) : readAddrs (handlerAccesses mn op s) = [] := by
  cases mn
  case sta | stx | sty => exact readAddrs_operandWriteAccess op _
  case jmp => rfl
  case jsr => exact readAddrs_pushAccesses s.sp _
  all_goals simp at h

/-- Settles O16: the equations of the two operations, variant by variant, and the five handlers' accesses. -/
theorem operandReadAndWrite : Obligations.OperandReadAndWrite :=
  ⟨fun _ _ _ => ⟨rfl, rfl, rfl, rfl, rfl, rfl, rfl, rfl⟩,
    fun _ _ _ _ => ⟨rfl, rfl, rfl, rfl, rfl, rfl, rfl, rfl⟩,
    fun _ op s h => readAddrs_handlerAccesses_eq_nil op s h⟩

end Sys2Proof.Machine
end

section
/-! PROOFS. What the result statements share: the rows of a mnemonic in the opcode table, and the state after an
instruction that reads its operand. -/

namespace Sys2Proof.Machine

/-! ### The rows of a mnemonic -/

/-- The row of an opcode byte in the decoder's map (R66). -/
def rowAt (op : Byte) : Option (Mnemonic × ModeId) :=
  (decodeInstr [op, 0x00, 0x00]).map fun j => (j.mnemonic, j.mode.id)

/-- A mnemonic's rows in the decoder's map, by rising opcode byte. -/
def rowsOf (mn : Mnemonic) : List (Byte × ModeId) :=
  allBytes.filterMap fun op => (rowAt op).bind fun row => if row.1 = mn then some (op, row.2) else none

theorem mem_rowsOf {mn : Mnemonic} {op : Byte} {md : ModeId} : (op, md) ∈ rowsOf mn ↔ rowAt op = some (mn, md) := by
  simp [rowsOf, Option.bind_eq_some_iff]

/-- A mnemonic has exactly the rows that the map holds for it (R66). -/
theorem hasRows_rowsOf (mn : Mnemonic) : HasRows mn (rowsOf mn) := by
  intro i
  have hrow : rowAt i.opcode = some (i.mnemonic, i.mode.id) := mnemonic_mode_of_opcode i
  rw [mem_rowsOf, hrow]
  simp

theorem hasRows_of_rowsOf_eq {mn : Mnemonic} {rows : List (Byte × ModeId)} (h : rowsOf mn = rows) : HasRows mn rows :=
  h ▸ hasRows_rowsOf mn

/-! ### The state after an instruction that reads its operand -/

/-- A handler that begins by reading its operand runs on the byte read before `PC` moved (R97). -/
theorem exec_of_operandRead {i : Instr} {s : State} {m : Byte} {k : State → Byte → Result}
    (hk : handler i.mnemonic = fun op s => readOperand op s (k s)) (hm : operandRead (operandOf i s) s = some m) :
    exec i s = completeStep (k { s with pc := s.pc + BitVec.ofNat 16 i.length } m) := by
  rw [exec_handler, hk]
  exact congrArg completeStep (readOperand_some ((operandRead_pc _ _ _).trans hm) _)

end Sys2Proof.Machine
end

section
/-! PROOFS. Addition, subtraction and comparison: the state after each, and subtraction as the addition of the
complement, which carries the laws of the sum over to the difference. -/

namespace Sys2Proof.Machine

/-! ### The state after each instruction -/

/-- The state after `ADC` of `m` (R110). -/
theorem exec_adc {i : Instr} {s : State} {m : Byte} (hi : i.mnemonic = .adc)
    (hm : operandRead (operandOf i s) s = some m) :
    exec i s = .next (setNZ (addResult s.a m s.flagC)
      { stepped i s with
        a := addResult s.a m s.flagC
        flagC := addCarry s.a m s.flagC
        flagV := addOverflow s.a m s.flagC }) := by
  rw [exec_of_operandRead (by rw [hi]; rfl) hm]
  rfl

/-- The state after `SBC` of `m` (R111). -/
theorem exec_sbc {i : Instr} {s : State} {m : Byte} (hi : i.mnemonic = .sbc)
    (hm : operandRead (operandOf i s) s = some m) :
    exec i s = .next (setNZ (subResult s.a m s.flagC)
      { stepped i s with
        a := subResult s.a m s.flagC
        flagC := subCarry s.a m s.flagC
        flagV := subOverflow s.a m s.flagC }) := by
  rw [exec_of_operandRead (by rw [hi]; rfl) hm]
  rfl

/-- The state after a comparison of `reg` with `m` (R112 to R115). -/
theorem exec_compare {i : Instr} {s : State} {reg m : Byte}
    (hi : i.mnemonic = .cmp ∧ reg = s.a ∨ i.mnemonic = .cpx ∧ reg = s.x ∨ i.mnemonic = .cpy ∧ reg = s.y)
    (hm : operandRead (operandOf i s) s = some m) :
    exec i s = .next (compareFlags reg m (stepped i s)) := by
  rcases hi with ⟨hi, rfl⟩ | ⟨hi, rfl⟩ | ⟨hi, rfl⟩ <;>
  · rw [exec_of_operandRead (by rw [hi]; rfl) hm]
    rfl

/-! ### The sums and differences as numbers -/

theorem addResult_toNat (a m : Byte) (c : Bool) : (addResult a m c).toNat = addSum a m c % 256 :=
  BitVec.toNat_ofNat _ _

/-- Numbers that differ by a multiple of 256 narrow to one byte. -/
theorem ofInt_eq_ofNat {x k : Int} {n : Nat} (h : (n : Int) = x + 256 * k) : BitVec.ofInt 8 x = BitVec.ofNat 8 n := by
  apply BitVec.eq_of_toNat_eq
  rw [BitVec.toNat_ofInt, BitVec.toNat_ofNat]
  omega

/-- The sum with the complement is the exact difference, 256 higher (D10). -/
theorem addSum_not (a m : Byte) (c : Bool) :
    (addSum a (~~~m) c : Int) = (a.toNat : Int) - m.toNat - borrow c + 256 := by
  have hm := m.isLt
  have hc := c.toNat_le
  rw [addSum, BitVec.toNat_not, borrow]
  omega

/-- The result of a subtraction is that of adding the complement (D10). -/
theorem subResult_eq_addResult_not (a m : Byte) (c : Bool) : subResult a m c = addResult a (~~~m) c :=
  ofInt_eq_ofNat (k := 1) (addSum_not a m c)

/-- The result as the rules write it, the difference kept above 0 (R111). -/
theorem subResult_eq_ofNat (a m : Byte) (c : Bool) :
    subResult a m c = BitVec.ofNat 8 (a.toNat + 512 - (m.toNat + borrow c)) := by
  have hm := m.isLt
  have hb : borrow c ≤ 1 := Nat.sub_le 1 _
  exact ofInt_eq_ofNat (k := 2) (by omega)

/-- The carry of a subtraction is that of adding the complement (D10). -/
theorem subCarry_eq_addCarry_not (a m : Byte) (c : Bool) : subCarry a m c = addCarry a (~~~m) c := by
  have hsum := addSum_not a m c
  rw [subCarry, addCarry, decide_eq_decide]
  omega

/-- The overflow of a subtraction is that of adding the complement (D10). -/
theorem subOverflow_eq_addOverflow_not (a m : Byte) (c : Bool) : subOverflow a m c = addOverflow a (~~~m) c := by
  have hsign : (~~~m).getLsbD 7 = !m.getLsbD 7 := by simp
  rw [subOverflow, addOverflow, subResult_eq_addResult_not, hsign]
  cases a.getLsbD 7 <;> cases m.getLsbD 7 <;> rfl

/-! ### The overflow flag -/

/-- Operands of one sign, result of the other (R110). -/
theorem addOverflow_eq_decide (a m : Byte) (c : Bool) : addOverflow a m c =
    decide (a.getLsbD 7 = m.getLsbD 7 ∧ (addResult a m c).getLsbD 7 ≠ a.getLsbD 7) := by
  rw [Bool.eq_iff_iff]
  simp [addOverflow]

/-- Operands of different sign, result of the other sign than `A` (R111). -/
theorem subOverflow_eq_decide (a m : Byte) (c : Bool) : subOverflow a m c =
    decide (a.getLsbD 7 ≠ m.getLsbD 7 ∧ (subResult a m c).getLsbD 7 ≠ a.getLsbD 7) := by
  rw [Bool.eq_iff_iff]
  simp [subOverflow]

/-- Bit 7 is the sign of a byte (R6). -/
theorem getLsbD_seven (b : Byte) : b.getLsbD 7 = decide (128 ≤ b.toNat) := BitVec.msb_eq_decide b

theorem toInt_eq_ite (b : Byte) : b.toInt = if 128 ≤ b.toNat then (b.toNat : Int) - 256 else b.toNat := by
  rw [BitVec.toInt_eq_toNat_cond]
  split <;> split <;> omega

/-- `V` after an addition: the exact signed sum leaves the signed bytes. -/
theorem addOverflow_iff (a m : Byte) (c : Bool) : addOverflow a m c = true ↔
    a.toInt + m.toInt + c.toNat < -128 ∨ 127 < a.toInt + m.toInt + c.toNat := by
  have ha := a.isLt
  have hm := m.isLt
  have hc := c.toNat_le
  simp only [addOverflow_eq_decide, decide_eq_true_eq, getLsbD_seven, decide_eq_decide, ne_eq, addResult_toNat, addSum,
    toInt_eq_ite]
  split <;> split <;> omega

/-- `V` after a subtraction: the exact signed difference leaves the signed bytes. -/
theorem subOverflow_iff (a m : Byte) (c : Bool) : subOverflow a m c = true ↔
    a.toInt - m.toInt - (1 - c.toNat : Int) < -128 ∨ 127 < a.toInt - m.toInt - (1 - c.toNat : Int) := by
  have hsum : a.toInt - m.toInt - (1 - c.toNat : Int) = a.toInt + (~~~m).toInt + c.toNat := by
    rw [toInt_eq_ite (~~~m), toInt_eq_ite m, BitVec.toNat_not]
    split <;> split <;> omega
  rw [subOverflow_eq_addOverflow_not, addOverflow_iff, hsum]

/-! ### The five statements -/

/-- Settles O33: the rows by the decoder's map, the state by the handler. -/
theorem adcAddsWithCarry : Obligations.AdcAddsWithCarry := by
  refine ⟨hasRows_of_rowsOf_eq (by decide), fun i s hi => ?_⟩
  obtain ⟨m, hm⟩ := operandRead_consuming (by rw [hi]; rfl) s
  refine ⟨m, hm, (exec_adc hi hm).trans ?_⟩
  rw [addOverflow_eq_decide]
  rfl

/-- Settles O34: the rows by the decoder's map, the state by the handler. -/
theorem sbcSubtractsWithBorrow : Obligations.SbcSubtractsWithBorrow := by
  refine ⟨hasRows_of_rowsOf_eq (by decide), fun i s hi => ?_⟩
  obtain ⟨m, hm⟩ := operandRead_consuming (by rw [hi]; rfl) s
  refine ⟨m, hm, (exec_sbc hi hm).trans ?_⟩
  rw [subOverflow_eq_decide, subResult_eq_ofNat]
  rfl

/-- Settles O35: an addition overflows as the signed sum does, and a subtraction is the addition of the complement. -/
theorem overflowMeansSignedOverflow : Obligations.OverflowMeansSignedOverflow := by
  refine ⟨fun i s hi => ?_, fun i s hi => ?_⟩ <;>
    obtain ⟨m, hm⟩ := operandRead_consuming (by rw [hi]; rfl) s
  · exact ⟨m, _, hm, exec_adc hi hm, addOverflow_iff s.a m s.flagC⟩
  · exact ⟨m, _, hm, exec_sbc hi hm, subOverflow_iff s.a m s.flagC⟩

/-- Settles O36: the result, the carry and the overflow are those of adding the complement. -/
theorem subtractIsAddOfComplement : Obligations.SubtractIsAddOfComplement := by
  intro v s
  rw [exec_sbc (m := v) rfl rfl, exec_adc (m := ~~~v) rfl rfl, subResult_eq_addResult_not, subCarry_eq_addCarry_not,
    subOverflow_eq_addOverflow_not]
  rfl

/-- Settles O37: the rows by the decoder's map, the flags by the handlers; the difference is 0 exactly if the bytes are
equal. -/
theorem compareSetsFlagsOnly : Obligations.CompareSetsFlagsOnly := by
  refine ⟨hasRows_of_rowsOf_eq (by decide), hasRows_of_rowsOf_eq (by decide), hasRows_of_rowsOf_eq (by decide),
    fun i s reg hi => ?_⟩
  have hgroup : i.mnemonic.group = .operandConsuming := by
    rcases hi with ⟨hi, -⟩ | ⟨hi, -⟩ | ⟨hi, -⟩ <;> rw [hi] <;> rfl
  obtain ⟨m, hm⟩ := operandRead_consuming hgroup s
  refine ⟨m, hm, (exec_compare hi hm).trans ?_⟩
  have hzero : decide (reg = m) = decide (compareResult reg m = 0x00) := decide_eq_decide.2 sub_eq_zero.symm
  rw [hzero]
  rfl

end Sys2Proof.Machine
end

section
/-! PROOFS. Logic, loads, stores, increments and decrements: the state after each, by the byte of its operand or by the
address it writes. -/

namespace Sys2Proof.Machine

/-! ### Logic and loads -/

/-- The result of each logic mnemonic (R120 to R122). -/
def logicResult (mn : Mnemonic) (a m : Byte) : Byte :=
  match mn with
  | .and => a &&& m
  | .ora => a ||| m
  | _ => a ^^^ m

/-- A load fills the register of its mnemonic and leaves the other two (R123 to R125). -/
def loadRegister (mn : Mnemonic) (m : Byte) (s : State) : State :=
  { s with
    a := if mn = .lda then m else s.a
    x := if mn = .ldx then m else s.x
    y := if mn = .ldy then m else s.y }

theorem handler_logic {mn : Mnemonic} (h : mn ∈ [.and, .ora, .eor]) :
    handler mn = fun op s => readOperand op s fun m =>
      .next (setNZ (logicResult mn s.a m) { s with a := logicResult mn s.a m }) := by
  cases mn
  case and | ora | eor => rfl
  all_goals simp at h

theorem handler_load {mn : Mnemonic} (h : mn ∈ [.lda, .ldx, .ldy]) :
    handler mn = fun op s => readOperand op s fun m => .next (setNZ m (loadRegister mn m s)) := by
  cases mn
  case lda | ldx | ldy => rfl
  all_goals simp at h

/-- The state after a logic instruction (R120 to R122). -/
theorem exec_logic {i : Instr} {s : State} {m : Byte} (hi : i.mnemonic ∈ [.and, .ora, .eor])
    (hm : operandRead (operandOf i s) s = some m) :
    exec i s = .next (setNZ (logicResult i.mnemonic s.a m)
      { stepped i s with a := logicResult i.mnemonic s.a m }) :=
  exec_of_operandRead (handler_logic hi) hm

/-- The state after a load (R123 to R125). -/
theorem exec_load {i : Instr} {s : State} {m : Byte} (hi : i.mnemonic ∈ [.lda, .ldx, .ldy])
    (hm : operandRead (operandOf i s) s = some m) :
    exec i s = .next (setNZ m (loadRegister i.mnemonic m (stepped i s))) :=
  exec_of_operandRead (handler_load hi) hm

/-- Logic and loads consume an operand (R62). -/
theorem group_logic_load {mn : Mnemonic} (h : mn ∈ [.and, .ora, .eor, .lda, .ldx, .ldy]) :
    mn.group = .operandConsuming := by
  cases mn
  case and | ora | eor | lda | ldx | ldy => rfl
  all_goals simp at h

/-- Settles O38: the rows by the decoder's map, the result by the mnemonic. -/
theorem logicIntoA : Obligations.LogicIntoA := by
  refine ⟨hasRows_of_rowsOf_eq (by decide), hasRows_of_rowsOf_eq (by decide), hasRows_of_rowsOf_eq (by decide),
    fun i s hi => ?_⟩
  obtain ⟨m, hm⟩ := operandRead_consuming (group_logic_load (List.mem_append_left [.lda, .ldx, .ldy] hi)) s
  refine ⟨m, logicResult i.mnemonic s.a m, hm, fun h => ?_, fun h => ?_, fun h => ?_, exec_logic hi hm⟩ <;>
  · rw [h]
    rfl

/-- Settles O39: the rows by the decoder's map, the register by the mnemonic. -/
theorem loadsFillTheirRegister : Obligations.LoadsFillTheirRegister := by
  refine ⟨hasRows_of_rowsOf_eq (by decide), hasRows_of_rowsOf_eq (by decide), hasRows_of_rowsOf_eq (by decide),
    fun i s hi => ?_⟩
  obtain ⟨m, hm⟩ := operandRead_consuming (group_logic_load (List.mem_append_right [.and, .ora, .eor] hi)) s
  exact ⟨m, hm, exec_load hi hm⟩

/-! ### Increments, decrements and stores -/

/-- The operand of a store, `INC` or `DEC` is a memory byte (R99). -/
theorem operandOf_memory {i : Instr} (h : i.mnemonic ∈ [.sta, .stx, .sty, .inc, .dec]) (s : State) :
    ∃ a, operandOf i s = .memory a := by
  have hshift : i.mnemonic ∉ [.asl, .lsr, .rol, .ror] := by
    revert h
    cases i.mnemonic <;> decide
  rcases operandOf_writing (List.mem_append_left [.asl, .lsr, .rol, .ror] h) s with ha | ⟨-, hmem⟩
  · exact ha
  · exact absurd hmem hshift

/-- A handler that writes back what it makes of its operand runs on the byte read before `PC` moved (R97, R98). -/
theorem exec_of_readModifyWrite {i : Instr} {s : State} {m : Byte} {f : State → Byte → Byte}
    {u : State → Byte → State}
    (hk : handler i.mnemonic = fun op s => readOperand op s fun m => writeOperand op (f s m) (u s m))
    (hm : operandRead (operandOf i s) s = some m) :
    exec i s = completeStep (writeOperand (operandOf i s)
      (f { s with pc := s.pc + BitVec.ofNat 16 i.length } m)
      (u { s with pc := s.pc + BitVec.ofNat 16 i.length } m)) := by
  rw [exec_handler, hk]
  exact congrArg completeStep (readOperand_some ((operandRead_pc _ _ _).trans hm) _)

/-- One more or one less, by the mnemonic (R126, R127). -/
def incDecResult (mn : Mnemonic) (m : Byte) : Byte := if mn = .inc then m + 1 else m - 1

theorem handler_incDec {mn : Mnemonic} (h : mn ∈ [.inc, .dec]) :
    handler mn = fun op s => readOperand op s fun m =>
      writeOperand op (incDecResult mn m) (setNZ (incDecResult mn m) s) := by
  cases mn
  case inc | dec => rfl
  all_goals simp at h

/-- The state after `INC` or `DEC` of the byte at `a` (R126, R127). -/
theorem exec_incDec {i : Instr} {s : State} {a : Addr} (hi : i.mnemonic ∈ [.inc, .dec])
    (ha : operandOf i s = .memory a) :
    exec i s = .next (memWrite a (incDecResult i.mnemonic (memRead a s))
      (setNZ (incDecResult i.mnemonic (memRead a s)) (stepped i s))) := by
  have hm : operandRead (operandOf i s) s = some (memRead a s) := by rw [ha]; rfl
  rw [exec_of_readModifyWrite (handler_incDec hi) hm, ha]
  rfl

/-- The state after a store of `v` at `a` (R128 to R130). -/
theorem exec_store {i : Instr} {s : State} {v : Byte} {a : Addr}
    (hi : i.mnemonic = .sta ∧ v = s.a ∨ i.mnemonic = .stx ∧ v = s.x ∨ i.mnemonic = .sty ∧ v = s.y)
    (ha : operandOf i s = .memory a) : exec i s = .next (memWrite a v (stepped i s)) := by
  rw [exec_handler, ha]
  rcases hi with ⟨hi, rfl⟩ | ⟨hi, rfl⟩ | ⟨hi, rfl⟩ <;> rw [hi] <;> rfl

/-- Settles O40: the rows by the decoder's map, the byte by the mnemonic. -/
theorem incrementAndDecrementMemory : Obligations.IncrementAndDecrementMemory := by
  refine ⟨hasRows_of_rowsOf_eq (by decide), hasRows_of_rowsOf_eq (by decide), fun i s hi => ?_⟩
  obtain ⟨a, ha⟩ := operandOf_memory (List.mem_append_right [.sta, .stx, .sty] hi) s
  exact ⟨a, incDecResult i.mnemonic (memRead a s), ha, rfl, exec_incDec hi ha⟩

/-- Settles O41: the rows by the decoder's map; each is the increment or decrement of its register operand (R100). -/
theorem incrementAndDecrementRegister : Obligations.IncrementAndDecrementRegister := by
  refine ⟨hasRows_of_rowsOf_eq (by decide), hasRows_of_rowsOf_eq (by decide), hasRows_of_rowsOf_eq (by decide),
    hasRows_of_rowsOf_eq (by decide), fun s => ⟨?inx, ?iny, ?dex, ?dey⟩⟩
  case inx => exact exec_of_readModifyWrite (i := .inx) rfl rfl
  case iny => exact exec_of_readModifyWrite (i := .iny) rfl rfl
  case dex => exact exec_of_readModifyWrite (i := .dex) rfl rfl
  case dey => exact exec_of_readModifyWrite (i := .dey) rfl rfl

/-- Settles O42: the rows by the decoder's map, the write by the handler, the later reads by the law of a write. -/
theorem storesWriteTheirOperand : Obligations.StoresWriteTheirOperand := by
  refine ⟨hasRows_of_rowsOf_eq (by decide), hasRows_of_rowsOf_eq (by decide), hasRows_of_rowsOf_eq (by decide),
    fun i s v hi => ?_⟩
  have hmn : i.mnemonic ∈ [.sta, .stx, .sty, .inc, .dec] := by
    rcases hi with ⟨hi, -⟩ | ⟨hi, -⟩ | ⟨hi, -⟩ <;> simp [hi]
  obtain ⟨a, ha⟩ := operandOf_memory hmn s
  exact ⟨a, _, ha, exec_store hi ha, rfl, fun b => memRead_after_memWrite a b v (stepped i s)⟩

end Sys2Proof.Machine
end

section
/-! PROOFS. Shifts, rotates and `BIT`: the state after each, the shifted byte as a number, and that a rotate to the
right brings back what a shift to the left moved out. -/

namespace Sys2Proof.Machine

/-! ### The state after a shift or rotate -/

/-- The result of each shift and rotate (R140 to R143). -/
def shiftResult (mn : Mnemonic) (m : Byte) (c : Bool) : Byte :=
  match mn with
  | .asl => aslResult m
  | .lsr => lsrResult m
  | .rol => rolResult m c
  | _ => rorResult m c

/-- The bit each shift and rotate moves out (R140 to R143). -/
def shiftCarry (mn : Mnemonic) (m : Byte) : Bool :=
  match mn with
  | .asl | .rol => shiftOutLeft m
  | _ => shiftOutRight m

/-- The flags each shift and rotate of `m` writes (R140 to R143). -/
def shiftFlags (mn : Mnemonic) (m : Byte) (s : State) : State :=
  setNZ (shiftResult mn m s.flagC) { s with flagC := shiftCarry mn m }

theorem handler_shift {mn : Mnemonic} (h : mn ∈ [.asl, .lsr, .rol, .ror]) :
    handler mn = fun op s => readOperand op s fun m =>
      writeOperand op (shiftResult mn m s.flagC) (shiftFlags mn m s) := by
  cases mn
  case asl | lsr | rol | ror => rfl
  all_goals simp at h

@[simp] theorem shiftFlags_stepped_a (mn : Mnemonic) (m : Byte) (i : Instr) (s : State) :
    (shiftFlags mn m (stepped i s)).a = s.a := rfl
@[simp] theorem shiftFlags_stepped_x (mn : Mnemonic) (m : Byte) (i : Instr) (s : State) :
    (shiftFlags mn m (stepped i s)).x = s.x := rfl
@[simp] theorem shiftFlags_stepped_y (mn : Mnemonic) (m : Byte) (i : Instr) (s : State) :
    (shiftFlags mn m (stepped i s)).y = s.y := rfl
@[simp] theorem shiftFlags_stepped_sp (mn : Mnemonic) (m : Byte) (i : Instr) (s : State) :
    (shiftFlags mn m (stepped i s)).sp = s.sp := rfl
@[simp] theorem shiftFlags_flagC (mn : Mnemonic) (m : Byte) (s : State) :
    (shiftFlags mn m s).flagC = shiftCarry mn m := rfl
@[simp] theorem memRead_shiftFlags_stepped (b : Addr) (mn : Mnemonic) (m : Byte) (i : Instr) (s : State) :
    memRead b (shiftFlags mn m (stepped i s)) = memRead b s := rfl

section

variable {i : Instr} {s : State} {mn : Mnemonic}

/-- The operand of a shift or rotate is `A` or a memory byte (R99). -/
theorem operandOf_shift (hi : i.mnemonic = mn) (hmn : mn ∈ [.asl, .lsr, .rol, .ror]) (s : State) :
    operandOf i s = .accumulator ∨ ∃ a, operandOf i s = .memory a := by
  subst hi
  rcases operandOf_writing (List.mem_append_right [.sta, .stx, .sty, .inc, .dec] hmn) s with ha | ⟨ha, -⟩
  · exact .inr ha
  · exact .inl ha

/-- The state after a shift or rotate of `A` (R88, R140 to R143). -/
theorem exec_shift_accumulator (hi : i.mnemonic = mn) (hmn : mn ∈ [.asl, .lsr, .rol, .ror])
    (ha : operandOf i s = .accumulator) :
    exec i s = .next { shiftFlags mn s.a (stepped i s) with a := shiftResult mn s.a s.flagC } := by
  subst hi
  have hm : operandRead (operandOf i s) s = some s.a := by rw [ha]; rfl
  rw [exec_of_readModifyWrite (handler_shift hmn) hm, ha]
  rfl

/-- The state after a shift or rotate of the byte at `a` (R140 to R143). -/
theorem exec_shift_memory {a : Addr} (hi : i.mnemonic = mn) (hmn : mn ∈ [.asl, .lsr, .rol, .ror])
    (ha : operandOf i s = .memory a) :
    exec i s = .next (memWrite a (shiftResult mn (memRead a s) s.flagC)
      (shiftFlags mn (memRead a s) (stepped i s))) := by
  subst hi
  have hm : operandRead (operandOf i s) s = some (memRead a s) := by rw [ha]; rfl
  rw [exec_of_readModifyWrite (handler_shift hmn) hm, ha]
  rfl

/-- The state after a shift or rotate, by the kind of its operand (R140 to R143). -/
theorem exec_shift (hi : i.mnemonic = mn) (hmn : mn ∈ [.asl, .lsr, .rol, .ror]) (s : State) :
    ∃ m, operandRead (operandOf i s) s = some m ∧
      (operandOf i s = .accumulator ∧
          exec i s = .next { shiftFlags mn m (stepped i s) with a := shiftResult mn m s.flagC } ∨
        ∃ a : Addr, operandOf i s = .memory a ∧
          exec i s = .next { shiftFlags mn m (stepped i s) with
            mem := s.mem.write a.toNat (shiftResult mn m s.flagC) }) := by
  rcases operandOf_shift hi hmn s with ha | ⟨a, ha⟩
  · exact ⟨s.a, by rw [ha]; rfl, .inl ⟨ha, exec_shift_accumulator hi hmn ha⟩⟩
  · exact ⟨memRead a s, by rw [ha]; rfl, .inr ⟨a, ha, exec_shift_memory hi hmn ha⟩⟩

end

/-! ### The shifted byte as a number -/

theorem aslResult_toNat (m : Byte) : (aslResult m).toNat = m.toNat * 2 % 256 := by
  rw [aslResult, BitVec.toNat_shiftLeft, Nat.shiftLeft_eq]

theorem lsrResult_toNat (m : Byte) : (lsrResult m).toNat = m.toNat / 2 := by
  rw [lsrResult, BitVec.toNat_ushiftRight, Nat.shiftRight_eq_div_pow]

/-- A flag put at a free bit is added with the weight of the bit (R142, R143). -/
theorem or_flagBit_toNat {v w : Byte} (c : Bool) (hfree : v &&& w = 0#8) :
    (v ||| flagBit c w).toNat = v.toNat + c.toNat * w.toNat := by
  cases c with
  | false => simp [flagBit]
  | true =>
    rw [flagBit, if_pos rfl, ← BitVec.add_eq_or_of_and_eq_zero _ _ hfree, BitVec.toNat_add_of_and_eq_zero hfree,
      Bool.toNat_true, Nat.one_mul]

theorem rolResult_toNat (m : Byte) (c : Bool) : (rolResult m c).toNat = m.toNat * 2 % 256 + c.toNat := by
  have hfree : aslResult m &&& 0x01 = 0#8 := by
    apply BitVec.eq_of_getElem_eq
    intro k hk
    interval_cases k <;> simp [aslResult]
  calc (rolResult m c).toNat = (aslResult m).toNat + c.toNat * 1 := or_flagBit_toNat c hfree
    _ = m.toNat * 2 % 256 + c.toNat := by rw [aslResult_toNat, Nat.mul_one]

theorem rorResult_toNat (m : Byte) (c : Bool) : (rorResult m c).toNat = m.toNat / 2 + c.toNat * 128 := by
  have hfree : lsrResult m &&& 0x80 = 0#8 := by
    apply BitVec.eq_of_getElem_eq
    intro k hk
    interval_cases k <;> simp [lsrResult]
  calc (rorResult m c).toNat = (lsrResult m).toNat + c.toNat * 128 := or_flagBit_toNat c hfree
    _ = m.toNat / 2 + c.toNat * 128 := by rw [lsrResult_toNat]

/-- Settles O43: the rows by the decoder's map, the byte and the carry by the mnemonic. -/
theorem shiftsMoveOneBit : Obligations.ShiftsMoveOneBit := by
  refine ⟨hasRows_of_rowsOf_eq (by decide), hasRows_of_rowsOf_eq (by decide), fun i s hi => ?_⟩
  obtain ⟨m, hm, hexec⟩ := exec_shift rfl (List.mem_append_left [.rol, .ror] hi) s
  refine ⟨m, _, _, hm, fun h => ?asl, fun h => ?lsr, ?flags, hexec⟩
  case asl => rw [h]; exact aslResult_toNat m
  case lsr => rw [h]; exact lsrResult_toNat m
  case flags =>
    obtain h | h : i.mnemonic = .asl ∨ i.mnemonic = .lsr := by simpa using hi
    all_goals rw [h]; rfl

/-- Settles O44: the rows by the decoder's map, the byte and the carry by the mnemonic. -/
theorem rotatesGoThroughCarry : Obligations.RotatesGoThroughCarry := by
  refine ⟨hasRows_of_rowsOf_eq (by decide), hasRows_of_rowsOf_eq (by decide), fun i s hi => ?_⟩
  obtain ⟨m, hm, hexec⟩ := exec_shift rfl (List.mem_append_right [.asl, .lsr] hi) s
  refine ⟨m, _, _, hm, fun h => ?rol, fun h => ?ror, ?flags, hexec⟩
  case rol => rw [h]; exact rolResult_toNat m s.flagC
  case ror => rw [h]; exact rorResult_toNat m s.flagC
  case flags =>
    obtain h | h : i.mnemonic = .rol ∨ i.mnemonic = .ror := by simpa using hi
    all_goals rw [h]; rfl

/-! ### A shift to the left and a rotate to the right -/

/-- The rotate brings the bit moved out back into bit 7 (E8). -/
@[simp] theorem shiftResult_ror_asl (m : Byte) (c : Bool) :
    shiftResult .ror (shiftResult .asl m c) (shiftCarry .asl m) = m := by
  apply BitVec.eq_of_getElem_eq
  intro k hk
  interval_cases k <;> simp [shiftResult, shiftCarry, rorResult, aslResult, shiftOutLeft]

/-- A shift to the left leaves 0 in bit 0, which the rotate moves out (E8). -/
@[simp] theorem shiftCarry_ror_asl (m : Byte) (c : Bool) : shiftCarry .ror (shiftResult .asl m c) = false := by
  simp [shiftCarry, shiftResult, shiftOutRight, aslResult]

/-- A mode that dereferences no pointer resolves by the registers alone (R84). -/
theorem resolve_of_registers (g : Group) {m : Mode} {s t : State} (hm : m.id ∉ [.indy, .zpxi, .ind])
    (hx : t.x = s.x) (hy : t.y = s.y) : resolve g m t = resolve g m s := by
  cases m
  case indy | zpxi | ind => simp [Mode.id] at hm
  case zpxd | absx => simp [resolve, zeroPageX, hx]
  case absy => simp [resolve, hy]
  all_goals rfl

/-- `ROR` after `ASL` in one mode other than `ZPXI` has the operand of the `ASL`, whatever memory holds (R99). -/
theorem operandOf_ror_after_asl {i j : Instr} {s t : State} (hi : i.mnemonic = .asl) (hj : j.mnemonic = .ror)
    (hmode : i.mode = j.mode) (hzpxi : i.mode.id ≠ .zpxi) (ht : exec i s = .next t) :
    operandOf j t = operandOf i s := by
  have hmem : i.mode.id ∈ [.zp, .acc, .abs, .zpxi, .absx] := by
    have h := mode_id_mem_modes i
    rwa [hi] at h
  have hptr : i.mode.id ∉ [.indy, .zpxi, .ind] := by
    revert hmem hzpxi
    cases i.mode.id <;> decide
  obtain ⟨u, hu, -, hx, hy, -⟩ := registersChangeOnlyWhereListed i s
  cases hu.symm.trans ht
  rw [operandOf, operandOf, hi, hj, ← hmode]
  exact resolve_of_registers _ hptr (hx (by rw [hi]; decide)) (hy (by rw [hi]; decide))

/-- Settles O45: the same operand twice, in `A` or in memory; the rotate brings its byte back and moves out the 0. -/
theorem aslThenRorRestores : Obligations.AslThenRorRestores := by
  intro i j s hi hj hmode hzpxi
  have hasl : Mnemonic.asl ∈ [.asl, .lsr, .rol, .ror] := by decide
  have hror : Mnemonic.ror ∈ [.asl, .lsr, .rol, .ror] := by decide
  rcases operandOf_shift hi hasl s with ha | ⟨a, ha⟩
  · have ht := exec_shift_accumulator hi hasl ha
    have hja := (operandOf_ror_after_asl hi hj hmode hzpxi ht).trans ha
    exact ⟨_, _, ht, exec_shift_accumulator hj hror hja, by simp, by simp, by simp, by simp, by simp, fun _ => rfl⟩
  · have ht := exec_shift_memory hi hasl ha
    have hja := (operandOf_ror_after_asl hi hj hmode hzpxi ht).trans ha
    refine ⟨_, _, ht, exec_shift_memory hj hror hja, by simp, by simp, by simp, by simp, ?carry, fun b => ?bytes⟩
    case carry => simp [memRead_after_memWrite]
    case bytes =>
      by_cases hb : b = a <;> simp [memRead_after_memWrite, hb]

/-! ### `BIT` -/

/-- The operand of `BIT` is a memory byte (R99). -/
theorem operandOf_bit {i : Instr} (h : i.mnemonic = .bit) (s : State) : ∃ a, operandOf i s = .memory a := by
  cases i
  case bitZp | bitAbs => exact ⟨_, rfl⟩
  all_goals cases h

/-- The state after `BIT` of the byte at `a` (R144). -/
theorem exec_bit {i : Instr} {s : State} {a : Addr} (hi : i.mnemonic = .bit) (ha : operandOf i s = .memory a) :
    exec i s = .next { stepped i s with
      flagN := (memRead a s).getLsbD 7
      flagV := (memRead a s).getLsbD 6
      flagZ := decide (memRead a s &&& s.a = 0x00) } := by
  have hm : operandRead (operandOf i s) s = some (memRead a s) := by rw [ha]; rfl
  rw [exec_of_operandRead (by rw [hi]; rfl) hm]
  rfl

/-- Settles O46: the rows by the decoder's map, the flags by the handler, the one read by its access list. -/
theorem bitTestsTheOperand : Obligations.BitTestsTheOperand := by
  refine ⟨hasRows_of_rowsOf_eq (by decide), fun i s hi => ?_⟩
  obtain ⟨a, ha⟩ := operandOf_bit hi s
  exact ⟨a, memRead a s, ha, rfl, by rw [ha]; rfl, exec_bit hi ha⟩

end Sys2Proof.Machine
end

section
/-! PROOFS. Transfers, flag instructions and `NOP`: no operand (R96), so each handler's state is the instruction's, one
tick later. -/

namespace Sys2Proof.Machine

/-- Settles O47: the rows by the decoder's map, the move and its flags by the handler. -/
theorem transfersMoveARegister : Obligations.TransfersMoveARegister := by
  refine ⟨hasRows_of_rowsOf_eq (by decide), hasRows_of_rowsOf_eq (by decide), hasRows_of_rowsOf_eq (by decide),
    hasRows_of_rowsOf_eq (by decide), hasRows_of_rowsOf_eq (by decide), hasRows_of_rowsOf_eq (by decide),
    fun s => ⟨?tax, ?tay, ?txa, ?tya, ?tsx, ?txs⟩⟩
  case tax => exact exec_next (i := .tax) rfl
  case tay => exact exec_next (i := .tay) rfl
  case txa => exact exec_next (i := .txa) rfl
  case tya => exact exec_next (i := .tya) rfl
  case tsx => exact exec_next (i := .tsx) rfl
  case txs => exact exec_next (i := .txs) rfl

/-- Settles O48: the rows by the decoder's map, the flag and its value by the handler. -/
theorem flagInstructionsAndNop : Obligations.FlagInstructionsAndNop := by
  refine ⟨hasRows_of_rowsOf_eq (by decide), hasRows_of_rowsOf_eq (by decide), hasRows_of_rowsOf_eq (by decide),
    hasRows_of_rowsOf_eq (by decide), hasRows_of_rowsOf_eq (by decide), hasRows_of_rowsOf_eq (by decide),
    hasRows_of_rowsOf_eq (by decide), hasRows_of_rowsOf_eq (by decide),
    fun s => ⟨?clc, ?cld, ?cli, ?clv, ?sec, ?sed, ?sei, ?nop⟩⟩
  case clc => exact exec_next (i := .clc) rfl
  case cld => exact exec_next (i := .cld) rfl
  case cli => exact exec_next (i := .cli) rfl
  case clv => exact exec_next (i := .clv) rfl
  case sec => exact exec_next (i := .sec) rfl
  case sed => exact exec_next (i := .sed) rfl
  case sei => exact exec_next (i := .sei) rfl
  case nop => exact exec_next (i := .nop) rfl

end Sys2Proof.Machine
end

section
/-! PROOFS. Control transfer: a branch adds its displacement to the address after it, `JMP` goes to its target, and
`RTS` pulls back the address that `JSR` pushed. -/

namespace Sys2Proof.Machine

/-! ### Branches -/

/-- The address with this number is the sum that a taken branch writes to `PC`, the displacement sign-extended (R94,
R170). -/
theorem eq_add_sext16 {a target : Addr} {d : Byte}
    (h : (target.toNat : Int) = ((a.toNat : Int) + 2 + d.toInt) % 65536) : target = a + 2 + sext16 d := by
  have hd : d.toInt = if 2 * (sext16 d).toNat < 65536 then ((sext16 d).toNat : Int) else (sext16 d).toNat - 65536 :=
    (sext16_toInt d).symm.trans (BitVec.toInt_eq_toNat_cond _)
  split at hd <;> bv_omega

/-- The state after a branch on `c`: `PC` past two bytes, or at the target as well (R170). -/
theorem exec_branch {i : Instr} {s : State} {c : Bool} {d : Byte} {target : Addr}
    (hi : handler i.mnemonic (operandOf i s) { s with pc := s.pc + BitVec.ofNat 16 i.length } =
      branch c (.relative (sext16 d)) { s with pc := s.pc + 2 })
    (ht : (target.toNat : Int) = ((s.pc.toNat : Int) + 2 + d.toInt) % 65536) :
    exec i s = .next { s with pc := if c then target else s.pc + 2, cyc := s.cyc + 1 } := by
  rw [exec_handler, hi, eq_add_sext16 ht]
  cases c <;> rfl

/-- Settles O49: the rows by the decoder's map, the condition by the handler, the target by sign extension. -/
theorem branchesAddTheDisplacement : Obligations.BranchesAddTheDisplacement := by
  refine ⟨hasRows_of_rowsOf_eq (by decide), hasRows_of_rowsOf_eq (by decide), hasRows_of_rowsOf_eq (by decide),
    hasRows_of_rowsOf_eq (by decide), hasRows_of_rowsOf_eq (by decide), hasRows_of_rowsOf_eq (by decide),
    hasRows_of_rowsOf_eq (by decide), hasRows_of_rowsOf_eq (by decide),
    fun s d target ht => ⟨?bcc, ?bcs, ?beq, ?bmi, ?bne, ?bpl, ?bvc, ?bvs⟩⟩
  case bcc => simpa using exec_branch (i := .bcc d) (c := !s.flagC) rfl ht
  case bcs => exact exec_branch (i := .bcs d) rfl ht
  case beq => exact exec_branch (i := .beq d) rfl ht
  case bmi => exact exec_branch (i := .bmi d) rfl ht
  case bne => simpa using exec_branch (i := .bne d) (c := !s.flagZ) rfl ht
  case bpl => simpa using exec_branch (i := .bpl d) (c := !s.flagN) rfl ht
  case bvc => simpa using exec_branch (i := .bvc d) (c := !s.flagV) rfl ht
  case bvs => exact exec_branch (i := .bvs d) rfl ht

/-! ### `JMP` -/

/-- Settles O50: the target is the operand, or the two-byte read at it; the absolute form's accesses by their list. -/
theorem jmpGoesToItsTarget : Obligations.JmpGoesToItsTarget :=
  ⟨hasRows_of_rowsOf_eq (by decide), fun s w =>
    ⟨exec_next (i := .jmpAbs w) rfl, rfl, read16 w s, read16_toNat w s, exec_next (i := .jmpInd w) rfl⟩⟩

/-! ### Two bytes on the stack -/

@[simp] theorem push16_sp (w : Addr) (s : State) : (push16 w s).sp = s.sp + 2 := add_assoc s.sp 1 1

@[simp] theorem pulled16_sp (s : State) : (pulled16 s).sp = s.sp - 2 := sub_sub s.sp 1 1

/-- Neighbouring values of `SP` designate different locations, at the wrap of page one too (R191). -/
theorem stackAddr_ne_stackAddr_add_one (sp : Byte) : stackAddr sp ≠ stackAddr (sp + 1) := fun h => by
  simpa using stackAddr_inj.1 h

/-- What a read gives after a two-byte push: the high byte went on first (R193). -/
theorem memRead_after_push16 (b w : Addr) (s : State) : memRead b (push16 w s) =
    if b = stackAddr s.sp then hiByte w else if b = stackAddr (s.sp + 1) then loByte w else memRead b s := by
  rw [push16, memRead_after_push, memRead_after_push, push_sp]
  by_cases hb : b = stackAddr s.sp
  · rw [if_neg (hb ▸ stackAddr_ne_stackAddr_add_one s.sp), if_pos hb, if_pos hb]
  · rw [if_neg hb, if_neg hb]

/-- The word a two-byte pull returns, by the two places it reads (R192, R193). -/
theorem pullWord_eq (s : State) :
    pullWord s = wordOf (memRead (stackAddr (s.sp - 2)) s) (memRead (stackAddr (s.sp - 1)) s) := by
  rw [← pulled16_sp]
  rfl

/-- A two-byte pull depends on `SP` and memory alone. -/
theorem pullWord_congr {s t : State} (hsp : t.sp = s.sp) (hm : t.mem = s.mem) : pullWord t = pullWord s := by
  simp only [pullWord_eq, hsp, memRead_congr hm]

/-- A two-byte pull returns the word that a two-byte push stored (R193). -/
theorem pullWord_push16 (w : Addr) (s : State) : pullWord (push16 w s) = w := by
  have hhi : (push16 w s).sp - 2 = s.sp := by rw [push16_sp]; exact add_sub_cancel_right s.sp 2
  have hlo : (push16 w s).sp - 1 = s.sp + 1 := by rw [push16_sp]; exact add_sub_assoc s.sp 2 1
  rw [pullWord_eq, hhi, hlo, memRead_after_push16, memRead_after_push16, if_pos rfl,
    if_neg (stackAddr_ne_stackAddr_add_one s.sp).symm, if_pos rfl, wordOf_hi_lo]

/-! ### `JSR` and `RTS` -/

/-- The state `JSR` leaves: the address of its last byte on the stack, `PC` at its operand (R180). -/
def afterJsr (w : Addr) (s : State) : State :=
  { s with sp := s.sp + 2, pc := w, cyc := s.cyc + 1, mem := (push16 (s.pc + 2) s).mem }

@[simp] theorem afterJsr_sp (w : Addr) (s : State) : (afterJsr w s).sp = s.sp + 2 := rfl

@[simp] theorem memRead_afterJsr (b w : Addr) (s : State) :
    memRead b (afterJsr w s) = memRead b (push16 (s.pc + 2) s) := rfl

@[simp] theorem pullWord_afterJsr (w : Addr) (s : State) : pullWord (afterJsr w s) = s.pc + 2 := by
  have hpull : pullWord (afterJsr w s) = pullWord (push16 (s.pc + 2) s) := pullWord_congr (push16_sp _ s).symm rfl
  rw [hpull, pullWord_push16]

/-- The handler sees `PC` past the three bytes and pushes one less (R180). -/
theorem exec_jsr (w : Addr) (s : State) : exec (.jsr w) s = .next (afterJsr w s) := by
  have hhandler : handler .jsr (operandOf (.jsr w) s) { s with pc := s.pc + 3 } =
    .next (setPc w (push16 (s.pc + 3 - 1) { s with pc := s.pc + 3 })) := rfl
  have hlast : s.pc + 3 - 1 = s.pc + 2 := add_sub_assoc s.pc 3 1
  have hsp : s.sp + 1 + 1 = s.sp + 2 := add_assoc s.sp 1 1
  rw [exec_next (i := .jsr w) hhandler, hlast, afterJsr, push16_eq, push16_eq, ← hsp]
  rfl

/-- The state after `RTS` (R181). -/
theorem exec_rts (s : State) :
    exec .rts s = .next { s with sp := s.sp - 2, pc := pullWord s + 1, cyc := s.cyc + 1 } := by
  rw [← pulled16_sp]
  exact exec_next (i := .rts) rfl

/-- Settles O51: `hi` and `lo` are the bytes of the pushed word, and every read follows from the two-byte push. -/
theorem jsrPushesItsLastByte : Obligations.JsrPushesItsLastByte := by
  refine ⟨hasRows_of_rowsOf_eq (by decide), fun s w hi lo hword =>
    ⟨afterJsr w s, exec_jsr w s, ?frame, fun b => ?bytes⟩⟩
  case frame => rfl
  case bytes =>
    have hret : s.pc + 2 = wordOf hi lo := BitVec.eq_of_toNat_eq (by rw [wordOf_toNat, hword]; rfl)
    rw [memRead_afterJsr, memRead_after_push16, hret, hiByte_wordOf, loByte_wordOf]
    rfl

/-- Settles O52: the pulled word as a number, plus one. -/
theorem rtsPullsAndAddsOne : Obligations.RtsPullsAndAddsOne := by
  refine ⟨hasRows_of_rowsOf_eq (by decide), fun s t ht => ?_⟩
  have hpc : t = pullWord s + 1 := by
    rw [pullWord_eq]
    exact BitVec.eq_of_toNat_eq (by rw [ht, BitVec.toNat_add, wordOf_toNat]; rfl)
  rw [hpc, exec_rts]

/-- Settles O53: `RTS` pulls the address that `JSR` pushed, and one more is the next instruction. -/
theorem rtsReturnsAfterJsr : Obligations.RtsReturnsAfterJsr := by
  intro s w
  refine ⟨afterJsr w s, exec_jsr w s, ?_⟩
  have hsp : (afterJsr w s).sp - 2 = s.sp := by rw [afterJsr_sp]; exact add_sub_cancel_right s.sp 2
  have hpc : pullWord (afterJsr w s) + 1 = s.pc + 3 := by rw [pullWord_afterJsr]; exact add_assoc s.pc 2 1
  have hcyc : (afterJsr w s).cyc + 1 = s.cyc + 2 := add_assoc s.cyc 1 1
  rw [exec_rts, hsp, hpc, hcyc]
  rfl

end Sys2Proof.Machine
end

section
/-! PROOFS. The stack engine, the four stack instructions and `RTI`: a pull undoes a push at every `SP`, and `RTI` pulls
back the status and the address that `BRK` pushed. -/

namespace Sys2Proof.Machine

/-! ### One byte on the stack -/

/-- Every stack location lies in page one (R200). -/
theorem stackAddr_pageOne (sp : Byte) : 0x0100 ≤ (stackAddr sp).toNat ∧ (stackAddr sp).toNat ≤ 0x01FF := by
  have hsp := sp.isLt
  rw [stackAddr_toNat]
  omega

theorem push_sp_sub_one (v : Byte) (s : State) : (push v s).sp - 1 = s.sp := add_sub_cancel_right s.sp 1

/-- A pull returns the byte that a push stored (R192). -/
@[simp] theorem pullByte_push (v : Byte) (s : State) : pullByte (push v s) = v := by
  rw [pullByte, push_sp_sub_one, memRead_after_push, if_pos rfl]

/-- A pull depends on `SP` and memory alone. -/
theorem pullByte_congr {s t : State} (hsp : t.sp = s.sp) (hm : t.mem = s.mem) : pullByte t = pullByte s := by
  rw [pullByte, pullByte, hsp, memRead_congr hm]

/-- Settles O54: a push wrote where the pull reads, and `SP` is back where it was. -/
theorem pushAndPullAreInverse : Obligations.PushAndPullAreInverse := by
  refine ⟨fun s v => ⟨?stored, rfl, pullByte_push v s, push_sp_sub_one v s⟩,
    fun s w => ⟨pullWord_push16 w s, ?sp16⟩, stackAddr_pageOne⟩
  case stored => exact (memRead_after_push _ v s).trans (if_pos rfl)
  case sp16 =>
    rw [pulled16_sp, push16_sp]
    exact add_sub_cancel_right s.sp 2

/-! ### `PHA`, `PHP`, `PLA`, `PLP` -/

/-- The state after an instruction whose handler pushes `v` (R194, R195). -/
def afterPush (i : Instr) (v : Byte) (s : State) : State :=
  { stepped i s with sp := s.sp + 1, mem := (push v s).mem }

/-- What a read gives after an instruction that pushed `v` (R191). -/
theorem memRead_afterPush (i : Instr) (b : Addr) (v : Byte) (s : State) :
    memRead b (afterPush i v s) = if b = stackAddr s.sp then v else memRead b s :=
  memRead_after_push b v s

/-- Settles O55: the rows by the decoder's map, the byte by the handler, every read by the law of a push. -/
theorem phaAndPhpPushOneByte : Obligations.PhaAndPhpPushOneByte := by
  refine ⟨hasRows_of_rowsOf_eq (by decide), hasRows_of_rowsOf_eq (by decide), fun s =>
    ⟨afterPush .pha s.a s, afterPush .php (getStatus s) s, ?pha, ?php, rfl, rfl, fun b => ⟨?a, ?status⟩⟩⟩
  case pha => exact exec_next (i := .pha) rfl
  case php => exact exec_next (i := .php) rfl
  case a => exact memRead_afterPush .pha b s.a s
  case status => exact memRead_afterPush .php b (getStatus s) s

/-- Settles O56: the rows by the decoder's map, what the pulled byte sets by the handler. -/
theorem plaAndPlpPullOneByte : Obligations.PlaAndPlpPullOneByte := by
  refine ⟨hasRows_of_rowsOf_eq (by decide), hasRows_of_rowsOf_eq (by decide), fun s b hb => ?_⟩
  have hpull : b = pullByte s := hb
  rw [hpull]
  exact ⟨exec_next (i := .pla) rfl, exec_next (i := .plp) rfl⟩

/-! ### `BRK` and `RTI` -/

/-- The word pulled under one byte, by the two places it reads (R199). -/
theorem pullWord_pulled (s : State) :
    pullWord (pulled s) = wordOf (memRead (stackAddr (s.sp - 3)) s) (memRead (stackAddr (s.sp - 2)) s) := by
  have hhi : (pulled s).sp - 2 = s.sp - 3 := sub_sub s.sp 1 2
  have hlo : (pulled s).sp - 1 = s.sp - 2 := sub_sub s.sp 1 1
  rw [pullWord_eq, hhi, hlo]
  rfl

/-- A byte pushed on top of a word and pulled again leaves the word as it was: three neighbouring values of `SP`
designate three locations, at the wrap of page one too (R200). -/
theorem pullWord_pulled_push (v : Byte) (s : State) : pullWord (pulled (push v s)) = pullWord s := by
  have hne {n : Byte} (hn : n ≠ 0) : stackAddr (s.sp - n) ≠ stackAddr s.sp := fun h =>
    hn (sub_eq_self.1 (stackAddr_inj.1 h))
  have hread {n : Byte} (hn : n ≠ 0) :
      memRead (stackAddr (s.sp - n)) (pulled (push v s)) = memRead (stackAddr (s.sp - n)) s :=
    (memRead_after_push _ v s).trans (if_neg (hne hn))
  rw [pullWord_eq, pullWord_eq, pulled_sp, push_sp_sub_one, hread (by decide), hread (by decide)]

/-- The state after `RTI` (R199). -/
theorem exec_rti (s : State) : exec .rti s = .next { setStatus (pullByte s) s with
    sp := s.sp - 3, pc := pullWord (pulled s), cyc := s.cyc + 1 } := by
  have hsp : s.sp - 3 = s.sp - 1 - 1 - 1 := by rw [sub_sub, sub_sub]; rfl
  rw [hsp]
  exact exec_next (i := .rti) rfl

/-- What `BRK` pushes: its return address, then the status with `B` set (R198). -/
def brkPushes (s : State) : State := push (getStatus { s with flagB := true }) (push16 (s.pc + 2) s)

@[simp] theorem brkPushes_sp (s : State) : (brkPushes s).sp = s.sp + 3 := by
  rw [brkPushes, push_sp, push16_sp]
  exact add_assoc s.sp 2 1

/-- The state `BRK` leaves: its pushes on the stack, `PC` at the vector, `B` and `I` set (R198). -/
def afterBrk (s : State) : State :=
  { s with
    sp := s.sp + 3
    pc := read16 Config.brkVector s
    cyc := s.cyc + 1
    flagB := true
    flagI := true
    mem := (brkPushes s).mem }

/-- The handler sees `PC` past the opcode byte and pushes one more (R198). -/
theorem exec_brk (s : State) : exec .brk s = .next (afterBrk s) := by
  have hhandler : handler .brk (operandOf .brk s) { s with pc := s.pc + 1 } =
    .next (takeBreak (s.pc + 1 + 1) { s with pc := s.pc + 1 }) := rfl
  have hret : s.pc + 1 + 1 = s.pc + 2 := add_assoc s.pc 1 1
  have hsp : s.sp + 3 = s.sp + 1 + 1 + 1 := by rw [add_assoc, add_assoc]; rfl
  rw [exec_next (i := .brk) hhandler, hret, takeBreak_eq, afterBrk, hsp]
  rfl

/-- The byte on top after `BRK` is the status with `B` set and the `I` of before (R198). -/
theorem pullByte_afterBrk (s : State) : pullByte (afterBrk s) = getStatus { s with flagB := true } := by
  have hpull : pullByte (afterBrk s) = pullByte (brkPushes s) := pullByte_congr (brkPushes_sp s).symm rfl
  rw [hpull, brkPushes, pullByte_push]

/-- The word under it is the return address (R198). -/
theorem pullWord_pulled_afterBrk (s : State) : pullWord (pulled (afterBrk s)) = s.pc + 2 := by
  have hsp : (pulled (afterBrk s)).sp = (pulled (brkPushes s)).sp := by
    rw [pulled_sp, pulled_sp, brkPushes_sp]
    rfl
  have hpull : pullWord (pulled (afterBrk s)) = pullWord (pulled (brkPushes s)) := pullWord_congr hsp rfl
  rw [hpull, brkPushes, pullWord_pulled_push, pullWord_push16]

/-- Every flag but `B` comes back from the pushed byte; of the flags that `BRK` changed, that is `I` (R199). -/
theorem setStatus_afterBrk (s : State) :
    setStatus (getStatus { s with flagB := true }) (afterBrk s) = { afterBrk s with flagI := s.flagI } := by
  simp [setStatus, getElem_getStatus, afterBrk]

/-- `RTI` after `BRK` gives back the state before, but for `B`, `PC`, `CYC` and memory (R199). -/
theorem exec_rti_afterBrk (s : State) : exec .rti (afterBrk s) =
    .next { s with pc := s.pc + 2, cyc := s.cyc + 2, flagB := true, mem := (afterBrk s).mem } := by
  have hsp : (afterBrk s).sp - 3 = s.sp := add_sub_cancel_right s.sp 3
  have hcyc : (afterBrk s).cyc + 1 = s.cyc + 2 := add_assoc s.cyc 1 1
  rw [exec_rti, hsp, hcyc, pullByte_afterBrk, pullWord_pulled_afterBrk, setStatus_afterBrk]
  rfl

/-- Settles O58: the pulled word as a number, and `RTI` pulls the status and the address that `BRK` pushed. -/
theorem rtiReturnsFromTheTrap : Obligations.RtiReturnsFromTheTrap := by
  refine ⟨hasRows_of_rowsOf_eq (by decide), fun s b ret hb hret => ?_, fun s =>
    ⟨afterBrk s, exec_brk s, exec_rti_afterBrk s⟩⟩
  have hpull : b = pullByte s := hb
  have hpc : ret = pullWord (pulled s) := by
    rw [pullWord_pulled]
    exact BitVec.eq_of_toNat_eq (by rw [hret, wordOf_toNat]; rfl)
  rw [hpull, hpc, exec_rti]
  rfl

end Sys2Proof.Machine
end

section
/-! PROOFS. Completion and the counter: every instruction answers with one more tick and no fault, `CYC` is carried
along unread, and `HALT` comes from an undefined opcode alone. -/

namespace Sys2Proof.Machine

/-! ### Completion -/

/-- Settles O12: the handler answers, touching none of these fields, and the tick is the step's last action. -/
theorem everyInstructionCompletes : Obligations.EveryInstructionCompletes := by
  intro i s
  obtain ⟨t, ht⟩ := handler_answers i s { s with pc := s.pc + BitVec.ofNat 16 i.length }
  obtain ⟨hcyc, hkept⟩ := handler_keeps ht
  exact ⟨tick t, exec_next ht, congrArg (· + 1) hcyc, hkept⟩

/-- Settles O11: an instruction leaves the clear latch clear, and the fetch fails on the undefined bytes alone. -/
theorem haltOnlyByUndefinedOpcode : Obligations.HaltOnlyByUndefinedOpcode := by
  intro s hs
  have hfetch : fetch s = none ↔ memRead s.pc s ∈ undefinedBytes :=
    (fetch_eq_none s).trans (undefinedOpcode_iff _)
  rcases step_cases s with ⟨hh, _⟩ | ⟨_, i, hf, hstep⟩ | ⟨_, hf, hstep⟩
  · simp [hs] at hh
  · obtain ⟨t, ht, hhalt, _⟩ := exec_keeps i s
    exact ⟨t, hstep.trans ht, by simp [← hfetch, hf, hhalt, hs]⟩
  · exact ⟨_, hstep, by simp [← hfetch, hf]⟩

/-! ### The counter -/

/-- The same state with another count of completed instructions. -/
def withCyc (c : Addr) (s : State) : State := { s with cyc := c }

section

variable (c : Addr)

@[simp] theorem operandOf_withCyc (i : Instr) (s : State) : operandOf i (withCyc c s) = operandOf i s :=
  resolve_congr _ _ rfl rfl rfl

@[simp] theorem operandRead_withCyc (op : Operand) (s : State) : operandRead op (withCyc c s) = operandRead op s := by
  cases op <;> rfl

theorem writeOperand_withCyc {op : Operand} {v : Byte} {s t : State} (h : writeOperand op v s = .next t) :
    writeOperand op v (withCyc c s) = .next (withCyc c t) := by
  rcases writeOperand_next h with ⟨a, rfl, rfl⟩ | ⟨rfl, rfl⟩ | ⟨rfl, rfl⟩ | ⟨rfl, rfl⟩ <;> rfl

theorem branch_withCyc {b : Bool} {op : Operand} {s t : State} (h : branch b op s = .next t) :
    branch b op (withCyc c s) = .next (withCyc c t) := by
  obtain ⟨d, rfl, rfl⟩ := branch_next h
  cases b <;> rfl

/-- A handler carries the counter along and does the same to everything else (R218). -/
theorem handler_withCyc {mn : Mnemonic} {op : Operand} {s t : State} (h : handler mn op s = .next t) :
    handler mn op (withCyc c s) = .next (withCyc c t) := by
  cases mn
  case adc | sbc | cmp | cpx | cpy | and | ora | eor | lda | ldx | ldy | bit =>
    obtain ⟨m, hm, h⟩ := readOperand_next h
    cases h
    exact readOperand_some (by simpa using hm) _
  case inc | dec | inx | iny | dex | dey | asl | lsr | rol | ror =>
    obtain ⟨m, hm, h⟩ := readOperand_next h
    exact (readOperand_some (by simpa using hm) _).trans (writeOperand_withCyc c h)
  case sta | stx | sty => exact writeOperand_withCyc c h
  case bcc | bcs | beq | bmi | bne | bpl | bvc | bvs => exact branch_withCyc c h
  case jmp | jsr =>
    obtain ⟨a, rfl, h⟩ := withTarget_next h
    cases h; rfl
  all_goals (cases h; rfl)

end

/-- Settles O31: neither the operand nor the handler reads the counter, and the tick adds one to any count. -/
theorem cycCountsAndIsNeverRead : Obligations.CycCountsAndIsNeverRead := by
  refine ⟨rfl, fun i s c => ?_, fun _ => rfl⟩
  obtain ⟨t, ht⟩ := handler_answers i s { s with pc := s.pc + BitVec.ofNat 16 i.length }
  obtain ⟨hcyc, _⟩ := handler_keeps ht
  have hother := handler_withCyc c ht
  rw [← operandOf_withCyc c] at hother
  have htick : (tick t).cyc = s.cyc + 1 := congrArg (· + 1) hcyc
  exact ⟨tick t, exec_next ht, by rw [htick, BitVec.toNat_add]; rfl, exec_next (s := withCyc c s) hother⟩

end Sys2Proof.Machine
end

section
/-! PROOFS. The trap: what each address reads after `BRK`, whose three pushes lie at three neighbouring stack
locations. -/

namespace Sys2Proof.Machine

/-- What a read gives after `BRK`: the three pushes, the last on top (R198). -/
theorem memRead_afterBrk (b : Addr) (s : State) : memRead b (afterBrk s) =
    if b = stackAddr s.sp then hiByte (s.pc + 2)
    else if b = stackAddr (s.sp + 1) then loByte (s.pc + 2)
    else if b = stackAddr (s.sp + 2) then getStatus { s with flagB := true }
    else memRead b s := by
  have hread : memRead b (afterBrk s) = memRead b (brkPushes s) := rfl
  have hhi : stackAddr (s.sp + 2) ≠ stackAddr s.sp := by simp [stackAddr_inj]
  have hlo : stackAddr (s.sp + 2) ≠ stackAddr (s.sp + 1) := by simp [stackAddr_inj]
  rw [hread, brkPushes, memRead_after_push, push16_sp, memRead_after_push16]
  by_cases hb : b = stackAddr (s.sp + 2)
  · rw [if_pos hb, if_neg (hb ▸ hhi), if_neg (hb ▸ hlo), if_pos hb]
  · rw [if_neg hb, if_neg hb]

/-- Settles O57: `hi` and `lo` are the bytes of the pushed word, and the vector is the two-byte read that `PC` took. -/
theorem brkTakesTheTrap : Obligations.BrkTakesTheTrap := by
  refine ⟨hasRows_of_rowsOf_eq (by decide), fun s hi lo vector hret hvector =>
    ⟨afterBrk s, exec_brk s, ?frame, fun b => ?bytes⟩⟩
  case frame =>
    have hpc : vector = read16 Config.brkVector s := BitVec.eq_of_toNat_eq (by rw [hvector, read16_toNat]; rfl)
    rw [hpc]
    rfl
  case bytes =>
    have hword : s.pc + 2 = wordOf hi lo := BitVec.eq_of_toNat_eq (by rw [wordOf_toNat, hret]; rfl)
    rw [memRead_afterBrk, hword, hiByte_wordOf, loByte_wordOf]
    rfl

end Sys2Proof.Machine
end

section
/-! PROOFS. A run: the image it is launched with, where it ends, and that a halted core ends no run. -/

namespace Sys2Proof.Machine

/-! ### The launch -/

/-- The memory of an image holds at each location the last byte the image gives it (R232). -/
theorem Memory.read_ofImage (image : List (Addr × Byte)) (a : Addr) : (Memory.ofImage image).read a.toNat =
    ((image.reverse.find? fun c => c.1 == a).map Prod.snd).getD Config.unlistedByte := by
  induction image using List.reverseRecOn with
  | nil => rfl
  | append_singleton image c ih =>
    have hlast : Memory.ofImage (image ++ [c]) = (Memory.ofImage image).write c.1.toNat c.2 := List.foldl_concat ..
    rw [hlast, Memory.read_write, ih, List.reverse_concat]
    by_cases hc : c.1 = a
    · simp [hc]
    · simp [hc, BitVec.toNat_inj, Ne.symm hc]

/-- Settles O59: the events and the core by evaluation, every byte by the law of an image. -/
theorem launchStateOfARun : Obligations.LaunchStateOfARun := fun l =>
  ⟨fun _ => ⟨resetWith l.image, rfl, rfl⟩, rfl, rfl, Memory.read_ofImage l.image⟩

/-! ### The end of a run -/

theorem ended_eq_false_of_halt (l : Launch) {s : State} (h : s.halt = true) : ended l s = false := by
  simp [ended, h]

theorem ended_eq_false_of_pc_ne {l : Launch} {s : State} (h : s.pc ≠ l.finish) : ended l s = false := by
  simp [ended, h]

/-- Every step answers (R210). -/
theorem step_answers (s : State) : ∃ t, step s = .next t := by
  obtain ⟨t, ht, _⟩ := step_keeps_flagU s
  exact ⟨t, ht⟩

/-- The result of a run meets the convention for its end, and a larger bound gives the same one: the run ends where it
is, or its next state has that result within one step less. -/
theorem runFrom_result {l : Launch} {n : Nat} {s t : State} (h : runFrom l n s = some t) :
    ended l t = true ∧ ∀ m, n ≤ m → runFrom l m s = some t := by
  fun_induction runFrom l n s with
  | case1 n s he =>
    cases h
    exact ⟨he, fun m _ => runFrom_of_ended he m⟩
  | case2 => cases h
  | case3 s he n u hu ih =>
    obtain ⟨ht, hmono⟩ := ih h
    refine ⟨ht, fun m hm => ?_⟩
    obtain ⟨k, rfl⟩ := Nat.exists_eq_add_of_le' hm
    rw [Nat.add_succ, runFrom_succ (eq_false_of_ne_true he) hu]
    exact hmono _ (Nat.le_add_left n k)
  | case4 => cases h
  | case5 => cases h

/-- A halted core stands still short of every end (R21, R236). -/
theorem runFrom_of_halt (l : Launch) (n : Nat) {s : State} (h : s.halt = true) : runFrom l n s = none := by
  induction n with
  | zero => exact runFrom_zero (ended_eq_false_of_halt l h)
  | succ n ih => rw [runFrom_succ (ended_eq_false_of_halt l h) (step_of_halt h), ih]

/-- A run that has not ended and stands at an undefined opcode halts (R211). -/
theorem runFrom_of_undefined {l : Launch} {s : State} (n : Nat) (hh : s.halt = false) (hpc : s.pc ≠ l.finish)
    (hf : fetch s = none) : runFrom l n s = none := by
  cases n with
  | zero => exact runFrom_zero (ended_eq_false_of_pc_ne hpc)
  | succ n =>
    rw [runFrom_succ (ended_eq_false_of_pc_ne hpc) (step_of_undefined hh hf)]
    exact runFrom_of_halt l n rfl

/-- Settles O60, clause by clause: ended, not ended, the result, halted, at an undefined opcode. -/
theorem runEndsAtItsAddress : Obligations.RunEndsAtItsAddress := by
  intro l n s
  refine ⟨fun hh hpc => ?ended, fun _ hpc => ?goesOn, fun t h => ?result, runFrom_of_halt l n,
    fun hh hpc hb => ?undefined⟩
  case ended => exact runFrom_of_ended ((ended_iff l s).2 ⟨hh, hpc⟩) n
  case goesOn =>
    obtain ⟨t, ht⟩ := step_answers s
    exact ⟨t, ht, runFrom_succ (ended_eq_false_of_pc_ne hpc) ht n⟩
  case result =>
    obtain ⟨ht, hmono⟩ := runFrom_result h
    obtain ⟨hhalt, hfinish⟩ := (ended_iff l t).1 ht
    exact ⟨hfinish, hhalt, hmono⟩
  case undefined => exact runFrom_of_undefined n hh hpc ((fetch_eq_none s).2 ((undefinedOpcode_iff _).2 hb))

end Sys2Proof.Machine
end
